-- ==== Sys2Proof/Config.lean ====
section
/-! DEFINITION. The implementation parameters of the core, with the values this hardware takes
(`00_scope.md` R7, R8). Every width and reload of the machine is read from
here: with another value of a parameter in this file the definitions of the machine are those of that instantiation. The
last row of R7's table, the reset values, is `Machine.State.reset`. -/

namespace Sys2Proof.Config

/-- `N`, the width of `sr`, `do` and `di` (`00_scope.md` R7). -/
abbrev wordWidth : Nat := 16

/-- `LOOP_W`, the width of the `loop_max` field of the ControlWord (`00_scope.md` R7). -/
abbrev loopWidth : Nat := 10

/-- `CNT_W`, the width of the countdown counter `i` (`00_scope.md` R7).
UNVERIFIED: 10 is the spec's decision D1 (`90_conflicts.md` C1); unsafe for `loop_max` of 256 or more if the
hardware has 8 bits (log entry 7). -/
abbrev counterWidth : Nat := 10

/-- `N_ADC_DATA`, the number of ADC data lines (`00_scope.md` R7).
UNVERIFIED: 2 is the spec's decision D12; no state or rule depends on it (log entry 15). -/
abbrev adcLineCount : Nat := 2

/-- `F_CLK` in MHz: ticks per microsecond (`00_scope.md` R7; `70_reset_and_hazards.md` R203). -/
def clockMHz : Nat := 128

/-- `T_CONV_NS`, the minimum ADC conversion hold in nanoseconds (`00_scope.md` R7). -/
def conversionNs : Nat := 220

/-- `T_CONV = ceil(T_CONV_NS / tick_period_ns)`, the counter reload on entering CONVERT, where one tick is
`1000 / clockMHz` ns: the exact rational ceiling of `conversionNs * clockMHz / 1000` (`00_scope.md` R8). -/
def convertReload : Nat := (conversionNs * clockMHz + 999) / 1000

/-- `T_READ`, the counter reload on entering READOUT (`00_scope.md` R7). -/
def readoutReload : Nat := 32

end Sys2Proof.Config
end

