-- ==== Sys2Proof/Word.lean ====
section
/-! DEFINITION. The machine's words, all unsigned, bit 0 the least significant (`00_scope.md` R9), with the widths of
`Config.lean` (R7). -/

namespace Sys2Proof

/-- The `N` bits of `sr`, `do` and `di` (`10_state.md` R21, R22, R27). -/
abbrev Word := BitVec Config.wordWidth

/-- The `CNT_W` bits of the countdown counter `i` (`10_state.md` R29). -/
abbrev Counter := BitVec Config.counterWidth

/-- The `LOOP_W` bits of the field `loop_max` (`10_state.md` R22, R23). -/
abbrev LoopMax := BitVec Config.loopWidth

/-- The `N_ADC_DATA` ADC data lines (`10_state.md` R30). -/
abbrev AdcLines := BitVec Config.adcLineCount

/-- The operation-select word `OSW`, 8 bits of the spec's bookkeeping and no parameter (`30_encoding.md` R76). -/
abbrev Osw := BitVec 8

end Sys2Proof
end

