-- ==== Sys2Proof/Syntax.lean ====
section
/-! DEFINITION. The operations of `spec/opcode_table.json`, the code words that name them, and the stimulus notation
of `30_encoding.md` R80. The pseudo-statements of R81 are in `Machine/Script.lean`. -/

namespace Sys2Proof

/-- One constructor per row of `spec/opcode_table.json`: the ControlWord format and the twelve operations of
`30_encoding.md` R77. The operand `b` of the two sampling edges is the level of `serial_in` at the edge. -/
inductive Instr where
  /-- CFGWORD: a ControlWord delivered by its well-formed frame (`30_encoding.md` R70, R73). -/
  | cfgword (w : Word)
  /-- TICK.COUNT (`41_fsm_operations.md` R121). -/
  | tickCount
  /-- TICK.DELAY_EXIT (`41_fsm_operations.md` R122). -/
  | tickDelayExit
  /-- TICK.CONVERT_EXIT (`41_fsm_operations.md` R123). -/
  | tickConvertExit
  /-- TICK.READOUT_EXIT (`41_fsm_operations.md` R124). -/
  | tickReadoutExit
  /-- SEL_ASSERT (`40_sr_operations.md` R90). -/
  | selAssert
  /-- SCK_RISE.SEED (`40_sr_operations.md` R91). -/
  | sckRiseSeed (b : Bool)
  /-- SCK_RISE.SHIFT (`40_sr_operations.md` R92). -/
  | sckRiseShift (b : Bool)
  /-- SCK_RISE.IDLE: `serial_in` is not sampled, so there is no operand (`40_sr_operations.md` R93). -/
  | sckRiseIdle
  /-- SCK_FALL.OUT (`40_sr_operations.md` R94). -/
  | sckFallOut
  /-- SCK_FALL.IDLE (`40_sr_operations.md` R95). -/
  | sckFallIdle
  /-- SEL_DEASSERT.LATCH (`40_sr_operations.md` R96). -/
  | selDeassertLatch
  /-- SEL_DEASSERT.NOLATCH (`40_sr_operations.md` R97). -/
  | selDeassertNolatch
  deriving DecidableEq, Repr

/-- What the decoder reads: a word of one of the two formats of `spec/opcode_table.json`. -/
inductive CodeWord where
  /-- Format EV: the operation-select word, and beside it the sampled level `b` of `serial_in`
  (`30_encoding.md` R76). -/
  | ev (osw : Osw) (b : Bool)
  /-- Format CW: the 16 bits of a ControlWord (`30_encoding.md` R70). -/
  | cw (word : Word)
  deriving DecidableEq, Repr

/-- Why a word names no operation: the cases (a), (b) and (c) of `30_encoding.md` R78. -/
inductive Reject where
  /-- `EVT` is 5, 6 or 7: there is no such event (R78 (a)). -/
  | noSuchEvent
  /-- `SEL_ASSERT` with `SEL` = 1: `select` is already active (R78 (b)). -/
  | selectAlreadyActive
  /-- `SEL_DEASSERT` with `SEL` = 0: `select` is already inactive (R78 (b)). -/
  | selectAlreadyInactive
  /-- `TICK` with `ST` = 3 and `Z` = 1: code 3 names no state (R78 (c)). -/
  | noSuchState
  deriving DecidableEq, Repr

/-- One statement of the stimulus notation (`30_encoding.md` R80): what the outside world does next. -/
inductive Stimulus where
  /-- `TICK`: an active edge of the primary clock (`00_scope.md` R11). -/
  | tick
  /-- `SEL+`: the configuration select goes active. -/
  | selAssert
  /-- `SEL-`: the configuration select goes inactive. -/
  | selDeassert
  /-- `RISE b`: a rising edge of the configuration clock with `serial_in` at level `b`. -/
  | sckRise (b : Bool)
  /-- `FALL`: a falling edge of the configuration clock. -/
  | sckFall
  /-- `DO v`: no event; the free input `do` takes the value `v` until the next `DO`. -/
  | setDo (v : Word)
  /-- `ADC v`: no event; the ADC data lines take the levels `v` until the next `ADC`. -/
  | setAdc (v : AdcLines)
  /-- `XFER16 w` put as one entry: the host delivers the ControlWord `w` by its whole frame
  (`30_encoding.md` R73, R81). DESIGN CHOICE (log entry 3). -/
  | cfgWord (w : Word)
  deriving DecidableEq, Repr

end Sys2Proof
end

