-- ==== Sys2Proof/Machine/State.lean ====
section
/-! DEFINITION. The machine's state as plain data, the reasons a step can stop, and the state at power-on.
There is no memory (`20_memory.md` R50), so no field holds one. -/

namespace Sys2Proof.Machine

/-- The three values of the FSM register `state`, in cycle order (`10_state.md` R28). The numeric codes of
`30_encoding.md` R75 are in `Fetch.lean`, where an operation-select word is put together. -/
inductive FsmState where
  /-- Idle between cycles, for `loop_max` + 1 ticks. -/
  | delay
  /-- The ADC is held in conversion, for 30 ticks. -/
  | convert
  /-- The ADC data is clocked out, for 33 ticks. -/
  | readout
  deriving DecidableEq, Repr

/-- The six registers of `10_state.md` R20, the tracked input levels, and the stimulus still to come. -/
structure State where
  /-- `sr`, the shift register (`10_state.md` R21). -/
  sr : Word
  /-- `serial_out`, the output register of the shift domain (`10_state.md` R24). -/
  serialOut : Bool
  /-- `le`, the edge detector's flip-flop (`10_state.md` R25). -/
  le : Bool
  /-- `di`, the ControlWord (`10_state.md` R22). -/
  di : Word
  /-- `state`, the FSM state (`10_state.md` R28). -/
  state : FsmState
  /-- `i`, the countdown counter (`10_state.md` R29). -/
  i : Counter
  /-- The input level `select`, 1 = selected (`10_state.md` R30, R32). -/
  select : Bool
  /-- The input level `do` (`10_state.md` R27), free: changed only by a `DO` statement. -/
  doIn : Word
  /-- The input levels `adc_sdo` (`10_state.md` R30), free: changed only by an `ADC` statement. -/
  adcSdo : AdcLines
  /-- The model's own field, not the spec's: what the outside world has yet to apply, first to last
  (`30_encoding.md` R80). DESIGN CHOICE (log entry 1). -/
  stimulus : List Stimulus
  deriving DecidableEq, Repr

/-- No constructor: "The core raises no exception of any kind" (`60_exceptions.md` R170). Nothing raises a fault. -/
inductive Fault where
  deriving DecidableEq, Repr

/-- Why a step has no meaning. -/
inductive Refusal where
  /-- An instruction that is not modelled. Raised by no arm of `exec`: every row of the table has its meaning. Safe. -/
  | notModelled (mnemonic : String)
  /-- Raised by `step` where the stimulus is no event at all, for example `SEL+` while `select` is active
  (`30_encoding.md` R78). Safe: the hardware cannot meet it (log entry 11). -/
  | noSuchOperation (why : Reject)
  deriving DecidableEq, Repr

/-- The power-on state, the parameter 'reset values' of `00_scope.md` R7: the table of `10_state.md` R34 (the spec's decision D4; UNVERIFIED, unsafe, log entry 5). The free
inputs `do` and `adc_sdo` stand at 0 until a statement drives them (DESIGN CHOICE, unsafe, log entry 6), and no
stimulus is listed (log entries 2 and 4). -/
def State.reset : State where
  sr := 0#Config.wordWidth
  serialOut := false
  le := true
  di := 0#Config.wordWidth
  state := .delay
  i := 0#Config.counterWidth
  select := false
  doIn := 0#Config.wordWidth
  adcSdo := 0#Config.adcLineCount
  stimulus := []

end Sys2Proof.Machine
end

