-- ==== Sys2Proof/Machine/Flags.lean ====
section
/-! DEFINITION. The one flag: the flip-flop `le` as the component that `42_clock_domains.md` R155 describes, the clock it
makes for `di` (R154), and the counter's zero test. The operations write `le` as R90 to R97 say; `Laws/Flags.lean` and the
statements hold those writes against this component. -/

namespace Sys2Proof.Machine

/-- The edge detector: data input 0, clocked by a rising serial-clock edge, enabled and preset by `select`, the preset
dominant (`42_clock_domains.md` R155). `select` is its present level; `sampleEdge` says a rising edge occurs. -/
def edgeDetector (select sampleEdge le : Bool) : Bool :=
  if !select then true
  else if sampleEdge then false
  else le

/-- The latch-pulse clock of `di`: a 0 to 1 change of `le` (`42_clock_domains.md` R154). -/
def latchPulse (leBefore leAfter : Bool) : Bool := !leBefore && leAfter

/-- `Z`: the counter is seen to be 0 at a tick (`41_fsm_operations.md` R120; `30_encoding.md` R76). -/
def counterZero (i : Counter) : Bool := i == 0#Config.counterWidth

end Sys2Proof.Machine
end

