-- ==== Sys2Proof/Machine/Operands.lean ====
section
/-! DEFINITION. The values the operations read and form: the fields of the ControlWord, the counter's reloads, and the
shift register's next contents. -/

namespace Sys2Proof.Machine

/-- `loop_max = di[9:0]` (`10_state.md` R23; `30_encoding.md` R70, R71). -/
def loopMax (di : Word) : LoopMax := di.extractLsb' 0 Config.loopWidth

/-- The reserved field `di[15:10]`, stored and read by nothing (`30_encoding.md` R72). -/
def reservedBits (di : Word) : BitVec (Config.wordWidth - Config.loopWidth) :=
  di.extractLsb' Config.loopWidth (Config.wordWidth - Config.loopWidth)

/-- `trunc_CNT_W(zext(loop_max))`: the reload on entering DELAY (`41_fsm_operations.md` R124, R138). -/
def delayReload (di : Word) : Counter := ((loopMax di).setWidth Config.wordWidth).setWidth Config.counterWidth

/-- `T_CONV`, zero-extended to the counter: the reload on entering CONVERT (`41_fsm_operations.md` R122, R138). -/
def convertReload : Counter := BitVec.ofNat Config.counterWidth Config.convertReload

/-- `T_READ`, zero-extended to the counter: the reload on entering READOUT (`41_fsm_operations.md` R123, R138). -/
def readoutReload : Counter := BitVec.ofNat Config.counterWidth Config.readoutReload

/-- `{v[N-2:0], b}`: the bits move up by one, the incoming bit enters at bit 0 and the top bit is dropped
(`40_sr_operations.md` R91, R92). -/
def shiftedIn (v : Word) (b : Bool) : Word := v.shiftConcat b

/-- Bit `N - 1`, the most significant bit: the bit on the wire (`00_scope.md` R9; `20_memory.md` R52). -/
def msb (v : Word) : Bool := v.getLsbD (Config.wordWidth - 1)

/-- The state that follows in the fixed cyclic order (`10_state.md` R28; `41_fsm_operations.md` R135). -/
def nextState : FsmState → FsmState
  | .delay => .convert
  | .convert => .readout
  | .readout => .delay

/-- The reload on entering a state (`41_fsm_operations.md` R120). -/
def reloadOf (di : Word) : FsmState → Counter
  | .delay => delayReload di
  | .convert => convertReload
  | .readout => readoutReload

end Sys2Proof.Machine
end

