-- ==== Sys2Proof/Machine/Ops.lean ====
section
/-! DEFINITION. The named operations over the registers and input levels. Every write goes through one of the setters
below, and every edge of the spec is one operation, so that all reads in it see the old values (`00_scope.md` R10;
`20_memory.md` R58). There is no exception entry or return: the core has none (`60_exceptions.md` R170, R173, R174). -/

namespace Sys2Proof.Machine

/-! ### One setter per field -/

/-- `sr <- v`. -/
def State.setSr (s : State) (v : Word) : State := { s with sr := v }
/-- `serial_out <- b`. -/
def State.setSerialOut (s : State) (b : Bool) : State := { s with serialOut := b }
/-- `le <- b`. -/
def State.setLe (s : State) (b : Bool) : State := { s with le := b }
/-- `di <- v`. -/
def State.setDi (s : State) (v : Word) : State := { s with di := v }
/-- `state <- f`. -/
def State.setState (s : State) (f : FsmState) : State := { s with state := f }
/-- `i <- v`. -/
def State.setI (s : State) (v : Counter) : State := { s with i := v }
/-- The input level `select`. -/
def State.setSelect (s : State) (b : Bool) : State := { s with select := b }
/-- The input level `do`. -/
def State.setDoIn (s : State) (v : Word) : State := { s with doIn := v }
/-- The input levels `adc_sdo`. -/
def State.setAdcSdo (s : State) (v : AdcLines) : State := { s with adcSdo := v }
/-- The stimulus still to come. -/
def State.setStimulus (s : State) (es : List Stimulus) : State := { s with stimulus := es }

/-! ### The configuration channel -/

/-- `select` goes active: the preset is released and nothing else changes (`40_sr_operations.md` R90). -/
def selectOn (s : State) : State := s.setSelect true

/-- The first rising edge of a frame: `sr <- {do[14:0], b}` and `le <- 0` (`40_sr_operations.md` R91). -/
def seedEdge (b : Bool) (s : State) : State := (s.setSr (shiftedIn s.doIn b)).setLe false

/-- A later rising edge of a frame: `sr <- {sr[14:0], b}` and `le <- 0` (`40_sr_operations.md` R92). -/
def shiftEdge (b : Bool) (s : State) : State := (s.setSr (shiftedIn s.sr b)).setLe false

/-- A falling edge while selected: `serial_out <- sr[15]` (`40_sr_operations.md` R94). -/
def outEdge (s : State) : State := s.setSerialOut (msb s.sr)

/-- `select` goes inactive after at least one rising edge: the preset's edge on `le` clocks `di`
(`40_sr_operations.md` R96; `42_clock_domains.md` R154). -/
def latchOff (s : State) : State := ((s.setDi s.sr).setLe true).setSelect false

/-- `select` goes inactive with no rising edge in the frame: no latch (`40_sr_operations.md` R97). -/
def noLatchOff (s : State) : State := s.setSelect false

/-! ### A whole frame, from the same operations -/

/-- A rising edge while selected, seeding or shifting as `le` says (`42_clock_domains.md` R156). -/
def sampleEdge (b : Bool) (s : State) : State := if s.le then seedEdge b s else shiftEdge b s

/-- `CLK b`: a rising and a falling edge while selected (`30_encoding.md` R81). -/
def clockBit (b : Bool) (s : State) : State := outEdge (sampleEdge b s)

/-- `SHIFT n, v`: the low `n` bits of the word, the highest first (`30_encoding.md` R81). -/
def clockBits : Nat → Word → State → State
  | 0, _, s => s
  | n + 1, v, s => clockBits n v (clockBit (v.getLsbD n) s)

/-- `select` goes inactive, latching or not as `le` says (`42_clock_domains.md` R154). -/
def selectOff (s : State) : State := if s.le then noLatchOff s else latchOff s

/-- The well-formed frame that carries a ControlWord (`30_encoding.md` R73, R81): `select` active, sixteen clocks, bit 15
first, `select` inactive. In a frame already open the first event is not there to make and the sixteen clocks complete
that frame (`20_memory.md` R54). DESIGN CHOICE: one step, no tick inside (log entry 3). -/
def sendControlWord (w : Word) (s : State) : State := selectOff (clockBits Config.wordWidth w (selectOn s))

/-! ### The sampling FSM -/

/-- A tick with `i` ≠ 0: the counter goes down by one (`41_fsm_operations.md` R121, R137). -/
def countDown (s : State) : State := s.setI (s.i - 1#Config.counterWidth)

/-- A tick with `i` = 0: the next state and its reload together (`41_fsm_operations.md` R120). -/
def enter (f : FsmState) (s : State) : State := (s.setState f).setI (reloadOf s.di f)

end Sys2Proof.Machine
end

