-- ==== Sys2Proof/Machine/Channel.lean ====
section
/-! DEFINITION. The meanings of the eight operations of the configuration channel (`40_sr_operations.md` R90 to R97):
neither `state` nor `i` is read or written. -/

namespace Sys2Proof.Machine

/-- SEL_ASSERT: no register changes; in particular `sr` is not loaded from `do` here (`40_sr_operations.md` R90). -/
def execSelAssert (s : State) : Host.Outcome State Fault Refusal := .next (selectOn s)

/-- SCK_RISE.SEED: `sr <- {do[14:0], b}`, `le <- 0`, with `do` as it stands at this edge (`40_sr_operations.md` R91). -/
def execSckRiseSeed (b : Bool) (s : State) : Host.Outcome State Fault Refusal := .next (seedEdge b s)

/-- SCK_RISE.SHIFT: `sr <- {sr[14:0], b}`, `le` stays 0 (`40_sr_operations.md` R92). -/
def execSckRiseShift (b : Bool) (s : State) : Host.Outcome State Fault Refusal := .next (shiftEdge b s)

/-- SCK_RISE.IDLE: no register changes while `select` is inactive (`40_sr_operations.md` R93). -/
def execSckRiseIdle (s : State) : Host.Outcome State Fault Refusal := .next s

/-- SCK_FALL.OUT: `serial_out <- sr[15]` (`40_sr_operations.md` R94). -/
def execSckFallOut (s : State) : Host.Outcome State Fault Refusal := .next (outEdge s)

/-- SCK_FALL.IDLE: no register changes; `serial_out` holds (`40_sr_operations.md` R95). -/
def execSckFallIdle (s : State) : Host.Outcome State Fault Refusal := .next s

/-- SEL_DEASSERT.LATCH: `di <- sr`, `le <- 1`, `select <- 0` (`40_sr_operations.md` R96). -/
def execSelDeassertLatch (s : State) : Host.Outcome State Fault Refusal := .next (latchOff s)

/-- SEL_DEASSERT.NOLATCH: `select <- 0`; `di`, `sr`, `serial_out` and `le` are unchanged (`40_sr_operations.md` R97). -/
def execSelDeassertNolatch (s : State) : Host.Outcome State Fault Refusal := .next (noLatchOff s)

end Sys2Proof.Machine
end

