-- ==== Sys2Proof/Machine/ControlWord.lean ====
section
/-! DEFINITION. The meaning of the row CFGWORD: the ControlWord is "the word latched into di by SEL_DEASSERT.LATCH"
(`spec/opcode_table.json`), and it gets there by its frame (`30_encoding.md` R73). -/

namespace Sys2Proof.Machine

/-- CFGWORD: the host delivers the ControlWord `w` by its well-formed frame, `XFER16 w` (`30_encoding.md` R70, R73, R81),
so that `di` = `w` after it (P1, `40_sr_operations.md` R98, R100). DESIGN CHOICE (log entry 3). -/
def execCfgword (w : Word) (s : State) : Host.Outcome State Fault Refusal := .next (sendControlWord w s)

end Sys2Proof.Machine
end

