-- ==== Sys2Proof/Machine/Tick.lean ====
section
/-! DEFINITION. The meanings of the four `TICK` operations (`41_fsm_operations.md` R120 to R124): no SR register is written. -/

namespace Sys2Proof.Machine

/-- TICK.COUNT: `i <- i - 1`, in any state (`41_fsm_operations.md` R121). -/
def execTickCount (s : State) : Host.Outcome State Fault Refusal := .next (countDown s)

/-- TICK.DELAY_EXIT: `state <- CONVERT`, `i <- T_CONV` (`41_fsm_operations.md` R122). -/
def execTickDelayExit (s : State) : Host.Outcome State Fault Refusal := .next (enter .convert s)

/-- TICK.CONVERT_EXIT: `state <- READOUT`, `i <- T_READ` (`41_fsm_operations.md` R123). -/
def execTickConvertExit (s : State) : Host.Outcome State Fault Refusal := .next (enter .readout s)

/-- TICK.READOUT_EXIT: `state <- DELAY`, `i <- trunc_CNT_W(zext(di[9:0]))`, the value `di` holds at this tick
(`41_fsm_operations.md` R124). -/
def execTickReadoutExit (s : State) : Host.Outcome State Fault Refusal := .next (enter .delay s)

end Sys2Proof.Machine
end

