-- ==== Sys2Proof/Machine/Dispatch.lean ====
section
/-! DEFINITION. One arm per constructor of Instr, each one direct call of its meaning. -/

namespace Sys2Proof.Machine

def exec (i : Instr) (s : State) : Host.Outcome State Fault Refusal :=
  match i with
  | .cfgword w => Sys2Proof.Machine.execCfgword w s
  | .tickCount => Sys2Proof.Machine.execTickCount s
  | .tickDelayExit => Sys2Proof.Machine.execTickDelayExit s
  | .tickConvertExit => Sys2Proof.Machine.execTickConvertExit s
  | .tickReadoutExit => Sys2Proof.Machine.execTickReadoutExit s
  | .selAssert => Sys2Proof.Machine.execSelAssert s
  | .sckRiseSeed b => Sys2Proof.Machine.execSckRiseSeed b s
  | .sckRiseShift b => Sys2Proof.Machine.execSckRiseShift b s
  | .sckRiseIdle => Sys2Proof.Machine.execSckRiseIdle s
  | .sckFallOut => Sys2Proof.Machine.execSckFallOut s
  | .sckFallIdle => Sys2Proof.Machine.execSckFallIdle s
  | .selDeassertLatch => Sys2Proof.Machine.execSelDeassertLatch s
  | .selDeassertNolatch => Sys2Proof.Machine.execSelDeassertNolatch s

end Sys2Proof.Machine
end

