-- ==== Sys2Proof/Machine/Osw.lean ====
section
/-! DEFINITION. The fields of the operation-select word (`30_encoding.md` R76). -/

namespace Sys2Proof

/-- The field `EVT`, bits 7:5 of the operation-select word (`30_encoding.md` R76). -/
def Osw.evt (w : Osw) : BitVec 3 := w.extractLsb' 5 3

/-- The field `SEL`, bit 4 (`30_encoding.md` R76). -/
def Osw.sel (w : Osw) : Bool := w.getLsbD 4

/-- The field `LE`, bit 3 (`30_encoding.md` R76). -/
def Osw.le (w : Osw) : Bool := w.getLsbD 3

/-- The field `ST`, bits 2:1 (`30_encoding.md` R76). -/
def Osw.st (w : Osw) : BitVec 2 := w.extractLsb' 1 2

/-- The field `Z`, bit 0 (`30_encoding.md` R76). -/
def Osw.z (w : Osw) : Bool := w.getLsbD 0

end Sys2Proof
end

