-- ==== Sys2Proof/WellFormed.lean ====
section
/-! DEFINITION. Checks. The fields of `Instr` carry their own bounds (a ControlWord is any 16 bits, `30_encoding.md` R82; a
sampled level is one bit), so every term is a well-formed instruction. What can be ill-formed is a code word (R78) and
an event sequence (`30_encoding.md` R78 (b), `42_clock_domains.md` R153, R162). -/

namespace Sys2Proof

/-- Every instruction is well-formed: "every 16-bit value is legal" (`30_encoding.md` R82). -/
def Instr.wf : Instr → Bool
  | .cfgword _ => true
  | .tickCount => true
  | .tickDelayExit => true
  | .tickConvertExit => true
  | .tickReadoutExit => true
  | .selAssert => true
  | .sckRiseSeed _ => true
  | .sckRiseShift _ => true
  | .sckRiseIdle => true
  | .sckFallOut => true
  | .sckFallIdle => true
  | .selDeassertLatch => true
  | .selDeassertNolatch => true

/-- The operation-select words that some row of `30_encoding.md` R77 matches, said by the cases of R78. -/
def Osw.wf (w : Osw) : Bool :=
  decide (Osw.evt w ≤ 4#3) &&
  !(Osw.evt w == 1#3 && Osw.sel w) &&
  !(Osw.evt w == 4#3 && !Osw.sel w) &&
  !(Osw.evt w == 0#3 && Osw.st w == 3#2 && Osw.z w)

/-- A code word that names an operation: every ControlWord does (`30_encoding.md` R82). -/
def CodeWord.wf : CodeWord → Bool
  | .ev osw _ => Osw.wf osw
  | .cw _ => true

/-- Well-formedness of an event sequence, from the level of `select`: `select` goes active only when inactive and inactive
only when active (`30_encoding.md` R78 (b)), and a ControlWord entry, a whole frame, begins with `select` inactive. -/
def selectAlternates : Bool → List Stimulus → Bool
  | _, [] => true
  | sel, .selAssert :: es => !sel && selectAlternates true es
  | sel, .selDeassert :: es => sel && selectAlternates false es
  | sel, .cfgWord _ :: es => !sel && selectAlternates sel es
  | sel, .tick :: es => selectAlternates sel es
  | sel, .sckRise _ :: es => selectAlternates sel es
  | sel, .sckFall :: es => selectAlternates sel es
  | sel, .setDo _ :: es => selectAlternates sel es
  | sel, .setAdc _ :: es => selectAlternates sel es

/-- The two edges of the one serial clock strictly alternate, from the level `sck` (`42_clock_domains.md` R153); a
ControlWord entry's frame begins and ends with the clock low. -/
def edgesAlternate : Bool → List Stimulus → Bool
  | _, [] => true
  | sck, .sckRise _ :: es => !sck && edgesAlternate true es
  | sck, .sckFall :: es => sck && edgesAlternate false es
  | sck, .cfgWord _ :: es => !sck && edgesAlternate sck es
  | sck, .selAssert :: es => edgesAlternate sck es
  | sck, .selDeassert :: es => edgesAlternate sck es
  | sck, .tick :: es => edgesAlternate sck es
  | sck, .setDo _ :: es => edgesAlternate sck es
  | sck, .setAdc _ :: es => edgesAlternate sck es

/-- The host's mode-0 discipline, from the level `sck`: `select` changes only while the serial clock is low
(`30_encoding.md` R73; `42_clock_domains.md` R162). A host duty, not a premise of the model (log entry 19). -/
def mode0 : Bool → List Stimulus → Bool
  | _, [] => true
  | sck, .selAssert :: es => !sck && mode0 sck es
  | sck, .selDeassert :: es => !sck && mode0 sck es
  | _, .sckRise _ :: es => mode0 true es
  | _, .sckFall :: es => mode0 false es
  | sck, .cfgWord _ :: es => !sck && mode0 sck es
  | sck, .tick :: es => mode0 sck es
  | sck, .setDo _ :: es => mode0 sck es
  | sck, .setAdc _ :: es => mode0 sck es

/-- A stimulus script from the levels of `select` and of the serial clock that keeps every rule of the channel. -/
def scriptWf (select sck : Bool) (es : List Stimulus) : Bool :=
  selectAlternates select es && edgesAlternate sck es && mode0 sck es

end Sys2Proof
end

