-- ==== Sys2Proof/Decode.lean ====
section
/-! DEFINITION. The decoder and the encoder of the two formats, from the table of `30_encoding.md` R77 and the format of
R70. A word of no row is rejected by name (R78). -/

namespace Sys2Proof

/-- Why an operation-select word of no row names no operation (`30_encoding.md` R78). -/
def rejection (w : Osw) : Reject :=
  if Osw.evt w = 0#3 then .noSuchState
  else if Osw.evt w = 1#3 then .selectAlreadyActive
  else if Osw.evt w = 4#3 then .selectAlreadyInactive
  else .noSuchEvent

/-- The operation an operation-select word selects, row by row as `30_encoding.md` R77 lists mask and match; `b` is the
operand carried beside the word. -/
def decodeOsw (w : Osw) (b : Bool) : Except Reject Instr :=
  if w &&& 0xE1#8 = 0x00#8 then .ok .tickCount
  else if w &&& 0xE7#8 = 0x01#8 then .ok .tickDelayExit
  else if w &&& 0xE7#8 = 0x03#8 then .ok .tickConvertExit
  else if w &&& 0xE7#8 = 0x05#8 then .ok .tickReadoutExit
  else if w &&& 0xF0#8 = 0x20#8 then .ok .selAssert
  else if w &&& 0xF8#8 = 0x58#8 then .ok (.sckRiseSeed b)
  else if w &&& 0xF8#8 = 0x50#8 then .ok (.sckRiseShift b)
  else if w &&& 0xF0#8 = 0x40#8 then .ok .sckRiseIdle
  else if w &&& 0xF0#8 = 0x70#8 then .ok .sckFallOut
  else if w &&& 0xF0#8 = 0x60#8 then .ok .sckFallIdle
  else if w &&& 0xF8#8 = 0x90#8 then .ok .selDeassertLatch
  else if w &&& 0xF8#8 = 0x98#8 then .ok .selDeassertNolatch
  else .error (rejection w)

/-- The decoder: total, rejecting by name. Every 16-bit ControlWord is legal (`30_encoding.md` R82). -/
def decode : CodeWord → Except Reject Instr
  | .ev osw b => decodeOsw osw b
  | .cw word => .ok (.cfgword word)

/-- The bits that pick a row of format EV (`30_encoding.md` R77, column match); the ControlWord format has none. -/
def Instr.matchBits : Instr → Osw
  | .cfgword _ => 0x00#8
  | .tickCount => 0x00#8
  | .tickDelayExit => 0x01#8
  | .tickConvertExit => 0x03#8
  | .tickReadoutExit => 0x05#8
  | .selAssert => 0x20#8
  | .sckRiseSeed _ => 0x58#8
  | .sckRiseShift _ => 0x50#8
  | .sckRiseIdle => 0x40#8
  | .sckFallOut => 0x70#8
  | .sckFallIdle => 0x60#8
  | .selDeassertLatch => 0x90#8
  | .selDeassertNolatch => 0x98#8

/-- The bits a row compares (`30_encoding.md` R77, column mask). -/
def Instr.maskBits : Instr → Osw
  | .cfgword _ => 0x00#8
  | .tickCount => 0xE1#8
  | .tickDelayExit => 0xE7#8
  | .tickConvertExit => 0xE7#8
  | .tickReadoutExit => 0xE7#8
  | .selAssert => 0xF0#8
  | .sckRiseSeed _ => 0xF8#8
  | .sckRiseShift _ => 0xF8#8
  | .sckRiseIdle => 0xF0#8
  | .sckFallOut => 0xF0#8
  | .sckFallIdle => 0xF0#8
  | .selDeassertLatch => 0xF8#8
  | .selDeassertNolatch => 0xF8#8

/-- The operation-select word of an operation in a context: its row's match bits where the row compares, and in the places
the row leaves free the bits of `context`, the state met (`30_encoding.md` R76, R77). -/
def encodeOsw (i : Instr) (context : Osw) : Osw := i.matchBits ||| (context &&& ~~~i.maskBits)

/-- The encoder with the context given: `30_encoding.md` R70 for a ControlWord, R76 and R77 for an operation. -/
def encodeIn (context : Osw) : Instr → CodeWord
  | .cfgword w => .cw w
  | .tickCount => .ev (encodeOsw .tickCount context) false
  | .tickDelayExit => .ev (encodeOsw .tickDelayExit context) false
  | .tickConvertExit => .ev (encodeOsw .tickConvertExit context) false
  | .tickReadoutExit => .ev (encodeOsw .tickReadoutExit context) false
  | .selAssert => .ev (encodeOsw .selAssert context) false
  | .sckRiseSeed b => .ev (encodeOsw (.sckRiseSeed b) context) b
  | .sckRiseShift b => .ev (encodeOsw (.sckRiseShift b) context) b
  | .sckRiseIdle => .ev (encodeOsw .sckRiseIdle context) false
  | .sckFallOut => .ev (encodeOsw .sckFallOut context) false
  | .sckFallIdle => .ev (encodeOsw .sckFallIdle context) false
  | .selDeassertLatch => .ev (encodeOsw .selDeassertLatch context) false
  | .selDeassertNolatch => .ev (encodeOsw .selDeassertNolatch context) false

/-- The encoder with every free bit 0, as the column match writes it. -/
def encode (i : Instr) : CodeWord := encodeIn 0#8 i

/-- A table row's bits as the code word they are: 8 bits are an operation-select word, whose operand `b` beside it is
among the bits above and so 0, and the `N` = 16 bits of a word are a ControlWord (`spec/opcode_table.json`, formats EV and CW). -/
def codeWordOfBits (nbits w : Nat) : Option CodeWord :=
  if nbits = 8 then some (.ev (BitVec.ofNat 8 w) false)
  else if nbits = Config.wordWidth then some (.cw (BitVec.ofNat Config.wordWidth w))
  else none

/-- The instruction the decoder reads from a table word of `nbits` bits. -/
def decodeTableWord (nbits w : Nat) : Option Instr :=
  match codeWordOfBits nbits w with
  | none => none
  | some c =>
    match decode c with
    | .ok i => some i
    | .error _ => none

end Sys2Proof
end

