-- ==== Sys2Proof/Machine/Fetch.lean ====
section
/-! DEFINITION. Which operation comes next. The core has no program counter to fetch at: the next statement of the stimulus,
with the state it meets, makes the operation-select word (`30_encoding.md` R76), and the decoder reads it. -/

namespace Sys2Proof.Machine

/-- What happens next: the first statement listed or, with none listed, a tick of the free-running primary clock
(`41_fsm_operations.md` R135). DESIGN CHOICE (log entry 2). -/
def State.nextStimulus (s : State) : Stimulus :=
  match s.stimulus with
  | [] => .tick
  | e :: _ => e

/-- The state with the next statement taken off the list. -/
def State.advance (s : State) : State := s.setStimulus s.stimulus.tail

/-- The codes of the FSM states (`30_encoding.md` R75), used in the operation-select word only. -/
def stateCode : FsmState → BitVec 2
  | .delay => 0#2
  | .convert => 1#2
  | .readout => 2#2

/-- The operation-select word: the event's code and the state the event meets (`30_encoding.md` R76). -/
def oswOf (evt : BitVec 3) (s : State) : Osw :=
  evt ++ BitVec.ofBool s.select ++ BitVec.ofBool s.le ++ stateCode s.state ++ BitVec.ofBool (counterZero s.i)

/-- The code word of the next statement; none for `DO` and `ADC`, which are no events (`30_encoding.md` R80). -/
def State.fetch (s : State) : Option CodeWord :=
  match s.nextStimulus with
  | .tick => some (.ev (oswOf 0#3 s) false)
  | .selAssert => some (.ev (oswOf 1#3 s) false)
  | .sckRise b => some (.ev (oswOf 2#3 s) b)
  | .sckFall => some (.ev (oswOf 3#3 s) false)
  | .selDeassert => some (.ev (oswOf 4#3 s) false)
  | .cfgWord w => some (.cw w)
  | .setDo _ => none
  | .setAdc _ => none

/-- A `DO` or `ADC` statement sets its free input (`30_encoding.md` R80); no other statement does. -/
def State.applyInput (s : State) : State :=
  match s.nextStimulus with
  | .setDo v => s.setDoIn v
  | .setAdc v => s.setAdcSdo v
  | .tick => s
  | .selAssert => s
  | .selDeassert => s
  | .sckRise _ => s
  | .sckFall => s
  | .cfgWord _ => s

/-- `s` with one more statement, to happen first. -/
def State.place (s : State) (e : Stimulus) : State := s.setStimulus (e :: s.stimulus)

/-- `s` with `select` inactive, and so with `le` preset (`10_state.md` R26). -/
def State.deselected (s : State) : State := (s.setSelect false).setLe true

/-- `s` made to meet an operation's condition (`30_encoding.md` R77), its event placed to happen first. Only what the row
compares is changed, but that `le` is preset with `select` inactive. -/
def State.placeInstr (s : State) : Instr → State
  | .cfgword w => s.place (.cfgWord w)
  | .tickCount => (if counterZero s.i then s.setI 1#Config.counterWidth else s).place .tick
  | .tickDelayExit => ((s.setState .delay).setI 0#Config.counterWidth).place .tick
  | .tickConvertExit => ((s.setState .convert).setI 0#Config.counterWidth).place .tick
  | .tickReadoutExit => ((s.setState .readout).setI 0#Config.counterWidth).place .tick
  | .selAssert => s.deselected.place .selAssert
  | .sckRiseSeed b => ((s.setSelect true).setLe true).place (.sckRise b)
  | .sckRiseShift b => ((s.setSelect true).setLe false).place (.sckRise b)
  | .sckRiseIdle => s.deselected.place (.sckRise false)
  | .sckFallOut => (s.setSelect true).place .sckFall
  | .sckFallIdle => s.deselected.place .sckFall
  | .selDeassertLatch => ((s.setSelect true).setLe false).place .selDeassert
  | .selDeassertNolatch => ((s.setSelect true).setLe true).place .selDeassert

/-- `s` with a table word placed to run next; a word of no row names no operation to place (`30_encoding.md` R78). -/
def State.placeWord (s : State) (nbits w : Nat) : State :=
  match decodeTableWord nbits w with
  | some i => s.placeInstr i
  | none => s

end Sys2Proof.Machine
end

