-- ==== Sys2Proof/Machine/Step.lean ====
section
/-! DEFINITION. One step: one statement of the stimulus, an event or a change of a free input (`00_scope.md` R11;
`30_encoding.md` R80). -/

namespace Sys2Proof.Machine

/-- Take the next statement. An event runs the operation its code word selects, in the state it meets; a `DO` or `ADC`
statement only sets its input; a word of no row is refused by name (`30_encoding.md` R78). -/
def step (s : State) : Host.Outcome State Fault Refusal :=
  match s.fetch with
  | none => .next s.applyInput.advance
  | some c =>
    match decode c with
    | .ok i => exec i s.advance
    | .error why => .refused (.noSuchOperation why)

/-- `s` with the instruction of a table word made the one that the very next step runs: its event placed first, and the
state it must meet set as its row says (log entry 4). -/
def State.withFetchWord (s : State) (nbits w : Nat) : State := s.placeWord nbits w

end Sys2Proof.Machine
end

