-- ==== Sys2Proof/Machine/Edges.lean ====
section
/-! DEFINITION. The software form of the edge detectors (`42_clock_domains.md` R157): from two samples of the configuration
channel's levels to the events between them. For a driver that samples pins; the machine itself steps by events. -/

namespace Sys2Proof.Machine

/-- One sample of the configuration channel's levels (`10_state.md` R30). -/
structure Pins where
  /-- `select`, the logical level. -/
  select : Bool
  /-- `cfg_sck`, the serial clock. -/
  sck : Bool
  /-- `serial_in`. -/
  serialIn : Bool
  deriving DecidableEq, Repr

/-- `deselect_edge = select_prev and not select_now` (`42_clock_domains.md` R157). -/
def deselectEdge (prev now : Pins) : Bool := prev.select && !now.select

/-- The 0 to 1 change of `select` (`10_state.md` R30). -/
def selectEdge (prev now : Pins) : Bool := !prev.select && now.select

/-- `rise = (not sck_prev) and sck_now` (`42_clock_domains.md` R157). -/
def clockRise (prev now : Pins) : Bool := !prev.sck && now.sck

/-- `fall = sck_prev and (not sck_now)` (`42_clock_domains.md` R157). -/
def clockFall (prev now : Pins) : Bool := prev.sck && !now.sck

/-- The event on the select line between two samples, if any. -/
def selectEvent (prev now : Pins) : List Stimulus :=
  if selectEdge prev now then [.selAssert]
  else if deselectEdge prev now then [.selDeassert]
  else []

/-- The event on the serial clock between two samples, if any, with `serial_in` as it now stands. -/
def clockEvent (prev now : Pins) : List Stimulus :=
  if clockRise prev now then [.sckRise now.serialIn]
  else if clockFall prev now then [.sckFall]
  else []

/-- The orders in which the events between two samples may be taken: where both lines changed, both orders
(`42_clock_domains.md` R160; `93_implementation_defined.md` U5). -/
def eventOrders (prev now : Pins) : List (List Stimulus) :=
  [selectEvent prev now ++ clockEvent prev now, clockEvent prev now ++ selectEvent prev now]

end Sys2Proof.Machine
end

