-- ==== Sys2Proof/Machine/Outputs.lean ====
section
/-! DEFINITION. The outputs of the core: `serial_out` is a register, the FSM's are combinational functions of the present
`state` and `i` and of the ADC's lines (`10_state.md` R31; `41_fsm_operations.md` R126 to R131).
UNVERIFIED: that they are not registered is the spec's decision D3 (log entry 13). -/

namespace Sys2Proof.Machine

/-- `adc_cs_n`: low in CONVERT and READOUT (`41_fsm_operations.md` R126). -/
def adcCsN (s : State) : Bool :=
  match s.state with
  | .delay => true
  | .convert => false
  | .readout => false

/-- `adc_sck`: `i[0]` in READOUT, else low (`41_fsm_operations.md` R127).
UNVERIFIED: parity and idle level are the spec's decisions D2 and D19 (log entry 12). -/
def adcSck (s : State) : Bool :=
  match s.state with
  | .delay => false
  | .convert => false
  | .readout => s.i.getLsbD 0

/-- `host_cs_n`: low in READOUT only (`41_fsm_operations.md` R128). -/
def hostCsN (s : State) : Bool :=
  match s.state with
  | .delay => true
  | .convert => true
  | .readout => false

/-- `host_sck = adc_sck` (`41_fsm_operations.md` R129). -/
def hostSck (s : State) : Bool := adcSck s

/-- `host_sdo = adc_sdo`, a wire (`41_fsm_operations.md` R130). -/
def hostSdo (s : State) : AdcLines := s.adcSdo

/-- All the levels the core drives (`10_state.md` R31). -/
structure Outputs where
  /-- The configuration channel's `serial_out`. -/
  serialOut : Bool
  /-- The ADC's select, active low. -/
  adcCsN : Bool
  /-- The ADC's sample clock. -/
  adcSck : Bool
  /-- The host-facing select, active low. -/
  hostCsN : Bool
  /-- The host-facing clock. -/
  hostSck : Bool
  /-- The host-facing data lines. -/
  hostSdo : AdcLines
  deriving DecidableEq, Repr

/-- The outputs during the interval in which the core is in state `s`. -/
def outputs (s : State) : Outputs where
  serialOut := s.serialOut
  adcCsN := adcCsN s
  adcSck := adcSck s
  hostCsN := hostCsN s
  hostSck := hostSck s
  hostSdo := hostSdo s

end Sys2Proof.Machine
end

