-- ==== Sys2Proof/Machine/Script.lean ====
section
/-! DEFINITION. Stimulus scripts: the pseudo-statements of `30_encoding.md` R81 as functions that build lists of statements. -/

namespace Sys2Proof

namespace Stimulus

/-- `CLK b` = `RISE b` ; `FALL` (`30_encoding.md` R81). -/
def clk (b : Bool) : List Stimulus := [.sckRise b, .sckFall]

/-- The clocks that send the bits `bs`, first to last. -/
def clocks : List Bool → List Stimulus
  | [] => []
  | b :: bs => clk b ++ clocks bs

/-- The low `n` bits of `v`, bit `n - 1` first: the order on the wire (`30_encoding.md` R73, R81). -/
def msbFirst : Nat → Nat → List Bool
  | 0, _ => []
  | n + 1, v => v.testBit n :: msbFirst n v

/-- `SHIFT n, v`: `n` clocks, the most significant bit of the `n`-bit value first (`30_encoding.md` R81). -/
def shift (n v : Nat) : List Stimulus := clocks (msbFirst n v)

/-- A frame that clocks in the bits `bs`: `SEL+`, a clock for each bit, `SEL-`. -/
def frame (bs : List Bool) : List Stimulus := .selAssert :: clocks bs ++ [.selDeassert]

/-- `XFER n, v`: a frame of `n` clocks (`30_encoding.md` R81). -/
def xfer (n v : Nat) : List Stimulus := frame (msbFirst n v)

/-- `XFER16 w`: the well-formed frame (`30_encoding.md` R73, R81). -/
def xfer16 (w : Word) : List Stimulus := xfer Config.wordWidth w.toNat

/-- `EMPTY`: a frame with no clock (`30_encoding.md` R81). -/
def empty : List Stimulus := [.selAssert, .selDeassert]

/-- `TICK n`: `n` ticks (`30_encoding.md` R81). -/
def ticks (n : Nat) : List Stimulus := List.replicate n .tick

/-- An event of the configuration channel, of one of the three domains other than the tick domain, or a ControlWord
entry, which stands for a whole frame of them (`42_clock_domains.md` R150, R160). -/
def isChannel : Stimulus → Bool
  | .selAssert => true
  | .selDeassert => true
  | .sckRise _ => true
  | .sckFall => true
  | .tick => false
  | .setDo _ => false
  | .setAdc _ => false
  | .cfgWord _ => true

end Stimulus

end Sys2Proof
end

