-- ==== Sys2Proof/Safety.lean ====
section
/-! DEFINITION. The terms claims use: runs, the invariant of the reachable states, and what a run has counted. -/

namespace Sys2Proof.Machine

/-- `k` steps of the machine. -/
def run (k : Nat) (s : State) : Host.Outcome State Fault Refusal := Host.Core.run Sys2Proof.core k s

/-- The run over a whole stimulus script, one step a statement (`30_encoding.md` R80), from the registers and input levels
of `s`. -/
def play (es : List Stimulus) (s : State) : Host.Outcome State Fault Refusal := run es.length (s.setStimulus es)

/-- How many ticks a script holds. -/
def ticksIn (es : List Stimulus) : Nat := es.count .tick

/-- The configuration-channel events of a script, in order: what is left of it when the ticks and the changes of the free
inputs are taken out (`42_clock_domains.md` R160). -/
def channelPart (es : List Stimulus) : List Stimulus := es.filter Stimulus.isChannel

/-- A script without its ticks. -/
def withoutTicks (es : List Stimulus) : List Stimulus := es.filter (fun e => !(e == .tick))

/-- The number whose binary digits are the bits of a wire, the first the most significant (`20_memory.md` R52). -/
def wireValue (bs : List Bool) : Nat := bs.foldl (fun n b => 2 * n + b.toNat) 0

/-- The largest value the counter holds in a state: the reload it was entered with (`41_fsm_operations.md` R120). -/
def counterBound : FsmState → Nat
  | .delay => 2 ^ Config.loopWidth - 1
  | .convert => Config.convertReload
  | .readout => Config.readoutReload

/-- The invariant: `le` is 1 while `select` is inactive (`10_state.md` R26), and the counter never holds more than the
present state's reload, so that the all-ones value of a decrement of 0 is never stored (`41_fsm_operations.md` R137). -/
abbrev State.Inv (s : State) : Prop :=
  (s.select = false → s.le = true) ∧ s.i.toNat ≤ counterBound s.state

/-- A safe run: every one of the first `k` steps answers a next state. -/
def safeFor (k : Nat) (s : State) : Prop := ∃ t, run k s = .next t

/-- The two inputs a step has no meaning for: `select` going to the level it has (`30_encoding.md` R78 (b)). -/
def State.noEvent (s : State) : Bool :=
  (s.nextStimulus == .selAssert && s.select) || (s.nextStimulus == .selDeassert && !s.select)

end Sys2Proof.Machine
end

