-- ==== Sys2Proof/Certificates/Slice0/Obligations.lean ====
section
/-! DEFINITION. The statements for the provers. Each docstring names the rules of spec/ it formalises; where a clause rests on
a choice of the model or a decision of the spec, it names the log entry. -/

open Sys2Proof Sys2Proof.Machine

/-! ### The operations of the configuration channel -/

/-- R90. SEL_ASSERT is the operation of EVT = 1 with SEL = 0; it raises `select` and changes no register. -/
def Obligations.SelAssertRaisesSelectOnly : Prop :=
  (∀ s : State, exec .selAssert s = .next { s with select := true }) ∧
  (∀ (w : Osw) (b : Bool), decode (.ev w b) = .ok .selAssert ↔ w.evt = 1#3 ∧ w.sel = false)

/-- R91. SCK_RISE.SEED is the operation of EVT = 2 with SEL = 1, LE = 1; bit 0 of `sr` becomes `b`, bits 15:1 become
`do[14:0]`, `le` is cleared and nothing else changes. -/
def Obligations.SckRiseSeedLoadsDoAndClearsLe : Prop :=
  (∀ (b : Bool) (s : State), ∃ t, exec (.sckRiseSeed b) s = .next t ∧
    t.sr.getLsbD 0 = b ∧ (∀ k, k < 15 → t.sr.getLsbD (k + 1) = s.doIn.getLsbD k) ∧
    t = { s with sr := t.sr, le := false }) ∧
  (∀ (w : Osw) (b c : Bool), decode (.ev w b) = .ok (.sckRiseSeed c) ↔
    b = c ∧ w.evt = 2#3 ∧ w.sel = true ∧ w.le = true)

/-- R92. SCK_RISE.SHIFT is the operation of EVT = 2 with SEL = 1, LE = 0; `b` enters at bit 0, every other bit takes its lower
neighbour, `le` is 0 and nothing else changes. -/
def Obligations.SckRiseShiftMovesEveryBitUp : Prop :=
  (∀ (b : Bool) (s : State), ∃ t, exec (.sckRiseShift b) s = .next t ∧
    t.sr.getLsbD 0 = b ∧ (∀ k, k < 15 → t.sr.getLsbD (k + 1) = s.sr.getLsbD k) ∧
    t = { s with sr := t.sr, le := false }) ∧
  (∀ (w : Osw) (b c : Bool), decode (.ev w b) = .ok (.sckRiseShift c) ↔
    b = c ∧ w.evt = 2#3 ∧ w.sel = true ∧ w.le = false)

/-- R93. SCK_RISE.IDLE is the operation of EVT = 2 with SEL = 0; nothing changes. -/
def Obligations.SckRiseIdleChangesNothing : Prop :=
  (∀ s : State, exec .sckRiseIdle s = .next s) ∧
  (∀ (w : Osw) (b : Bool), decode (.ev w b) = .ok .sckRiseIdle ↔ w.evt = 2#3 ∧ w.sel = false)

/-- R94. SCK_FALL.OUT is the operation of EVT = 3 with SEL = 1; `serial_out` takes bit 15 of `sr`. -/
def Obligations.SckFallOutCopiesMsb : Prop :=
  (∀ s : State, exec .sckFallOut s = .next { s with serialOut := s.sr.getLsbD 15 }) ∧
  (∀ (w : Osw) (b : Bool), decode (.ev w b) = .ok .sckFallOut ↔ w.evt = 3#3 ∧ w.sel = true)

/-- R95. SCK_FALL.IDLE is the operation of EVT = 3 with SEL = 0; no register changes. That `serial_out` holds while deselected
is the spec's decision D6 (R24, log entry 8). -/
def Obligations.SckFallIdleChangesNothing : Prop :=
  (∀ s : State, exec .sckFallIdle s = .next s) ∧
  (∀ (w : Osw) (b : Bool), decode (.ev w b) = .ok .sckFallIdle ↔ w.evt = 3#3 ∧ w.sel = false)

/-- R96. SEL_DEASSERT.LATCH is the operation of EVT = 4 with SEL = 1, LE = 0; `di` takes all of `sr`, `le` is set, `select`
goes inactive, nothing else changes; and of the twelve operations no other changes `di`. -/
def Obligations.SelDeassertLatchStoresSr : Prop :=
  (∀ s : State, exec .selDeassertLatch s = .next { s with di := s.sr, le := true, select := false }) ∧
  (∀ (w : Osw) (b : Bool), decode (.ev w b) = .ok .selDeassertLatch ↔
    w.evt = 4#3 ∧ w.sel = true ∧ w.le = false) ∧
  (∀ (i : Instr) (s t : State), i ≠ .selDeassertLatch → (∀ w, i ≠ .cfgword w) → exec i s = .next t → t.di = s.di)

/-- R97. SEL_DEASSERT.NOLATCH is the operation of EVT = 4 with SEL = 1, LE = 1; only `select` changes. A falling edge does not
clear `le`, so it does not arm the latch. -/
def Obligations.SelDeassertNolatchKeepsDi : Prop :=
  (∀ s : State, exec .selDeassertNolatch s = .next { s with select := false }) ∧
  (∀ (w : Osw) (b : Bool), decode (.ev w b) = .ok .selDeassertNolatch ↔
    w.evt = 4#3 ∧ w.sel = true ∧ w.le = true) ∧
  (∀ s : State, ∃ t, exec .sckFallOut s = .next t ∧ t.le = s.le)

/-- The row CFGWORD: `di` and `sr` hold the word, `serial_out` its top bit, the frame is over. The model's choice to run the
whole frame in one step is log entry 3; the values are those of P1 and R98, R99. -/
def Obligations.CfgwordDeliversControlWord : Prop :=
  ∀ (w : Word) (s : State), exec (.cfgword w) s =
    .next { s with sr := w, di := w, serialOut := w.getLsbD 15, le := true, select := false }

/-- The one-step ControlWord is the well-formed frame `XFER16 w` played event by event (R73, R81). The one-step form is
log entry 3. -/
def Obligations.CfgwordEqualsItsFramePlayed : Prop :=
  ∀ (w : Word) (s : State), s.select = false →
    play (Stimulus.xfer16 w) s = exec (.cfgword w) { s with stimulus := [] }

/-! ### The operations of the sampling FSM -/

/-- R121. TICK.COUNT is the operation of EVT = 0 with Z = 0; with `i` not 0 the counter goes down by one without a borrow,
nothing else changes and `di` is not read. -/
def Obligations.TickCountDecrements : Prop :=
  (∀ s : State, s.i ≠ 0#10 → ∃ t, exec .tickCount s = .next t ∧
    t.i.toNat + 1 = s.i.toNat ∧ t = { s with i := t.i }) ∧
  (∀ (w : Osw) (b : Bool), decode (.ev w b) = .ok .tickCount ↔ w.evt = 0#3 ∧ w.z = false) ∧
  (∀ (s t : State) (v : Word), exec .tickCount s = .next t → exec .tickCount { s with di := v } = .next { t with di := v })

/-- R122. TICK.DELAY_EXIT is the operation of EVT = 0 with ST = 0, Z = 1; CONVERT with `i` = 29, `adc_cs_n` is then 0 and `di` is
not read. -/
def Obligations.TickDelayExitEntersConvert : Prop :=
  (∀ s : State, ∃ t, exec .tickDelayExit s = .next t ∧ t = { s with state := .convert, i := 29#10 } ∧ adcCsN t = false) ∧
  (∀ (w : Osw) (b : Bool), decode (.ev w b) = .ok .tickDelayExit ↔ w.evt = 0#3 ∧ w.st = 0#2 ∧ w.z = true) ∧
  (∀ (s t : State) (v : Word), exec .tickDelayExit s = .next t →
    exec .tickDelayExit { s with di := v } = .next { t with di := v })

/-- R123. TICK.CONVERT_EXIT is the operation of EVT = 0 with ST = 1, Z = 1; READOUT with `i` = 32, `host_cs_n` is then 0 and
`adc_sck` is 0. -/
def Obligations.TickConvertExitEntersReadout : Prop :=
  (∀ s : State, ∃ t, exec .tickConvertExit s = .next t ∧ t = { s with state := .readout, i := 32#10 } ∧
    hostCsN t = false ∧ adcSck t = false) ∧
  (∀ (w : Osw) (b : Bool), decode (.ev w b) = .ok .tickConvertExit ↔ w.evt = 0#3 ∧ w.st = 1#2 ∧ w.z = true)

/-- R124. TICK.READOUT_EXIT is the operation of EVT = 0 with ST = 2, Z = 1; DELAY with `i` = `trunc_CNT_W(zext(di[9:0]))`, which
is `loop_max`; both selects are high after it, and no other tick reads `di`. `CNT_W` = 10 is log entry 7. -/
def Obligations.TickReadoutExitLoadsLoopMax : Prop :=
  (∀ s : State, ∃ t, exec .tickReadoutExit s = .next t ∧
    t = { s with state := .delay, i := ((s.di.extractLsb' 0 10).setWidth 16).setWidth 10 } ∧
    t.i.toNat = s.di.toNat % 1024 ∧ adcCsN t = true ∧ hostCsN t = true) ∧
  (∀ (w : Osw) (b : Bool), decode (.ev w b) = .ok .tickReadoutExit ↔ w.evt = 0#3 ∧ w.st = 2#2 ∧ w.z = true) ∧
  (∀ (s t : State) (v : Word) (i : Instr), i = .tickCount ∨ i = .tickDelayExit ∨ i = .tickConvertExit →
    exec i s = .next t → exec i { s with di := v } = .next { t with di := v })

/-- R120. The whole tick rule, at the step: reload and next state at `i` = 0, decrement otherwise. -/
def Obligations.TickReloadsAtZeroElseCounts : Prop :=
  ∀ (s : State) (es : List Stimulus), s.stimulus = .tick :: es →
    step s = .next (
      if s.i = 0#10 then
        match s.state with
        | .delay => { s with stimulus := es, state := .convert, i := 29#10 }
        | .convert => { s with stimulus := es, state := .readout, i := 32#10 }
        | .readout => { s with stimulus := es, state := .delay, i := (s.di.extractLsb' 0 10).setWidth 10 }
      else { s with stimulus := es, i := s.i - 1#10 })

/-- R8. `T_CONV` is the least number of ticks of 1000/128 ns that is at least 220 ns, which is 29, and both reloads fit in the
counter. -/
def Obligations.ConvertReloadIsTheCeiling : Prop :=
  Config.conversionNs = 220 ∧ Config.clockMHz = 128 ∧ Config.convertReload = 29 ∧
  (∀ n : Nat, Config.conversionNs * Config.clockMHz ≤ n * 1000 ↔ Config.convertReload ≤ n) ∧
  Config.convertReload < 2 ^ Config.counterWidth ∧ Config.readoutReload < 2 ^ Config.counterWidth

/-! ### Decoding, encoding and the step -/

/-- Words written out from R70 and R76 decode to what they stand for. -/
def Obligations.WrittenWordsDecode : Prop :=
  decodeTableWord 8 0b00001100 = some .tickCount ∧ decodeTableWord 8 0b00010101 = some .tickReadoutExit ∧
  decodeTableWord 8 0b00101101 = some .selAssert ∧ decode (.ev 0b01011101#8 true) = .ok (.sckRiseSeed true) ∧
  decode (.ev 0b01010000#8 false) = .ok (.sckRiseShift false) ∧ decodeTableWord 8 0b01110000 = some .sckFallOut ∧
  decodeTableWord 8 0b10010000 = some .selDeassertLatch ∧
  decodeTableWord 16 0b0000001011111111 = some (.cfgword 0x02FF#16)

/-- Decode and encode agree, with every operand at every value and the row's free bits at every value of the state met. -/
def Obligations.DecodeOfEncodeInEveryContext : Prop :=
  ∀ (i : Instr) (context : Osw), decode (encodeIn context i) = .ok i

/-- Encode and decode agree the other way: every word of a row is its operation's encoding in that very context, with the
operand `b` of the word beside it for SCK_RISE.SEED and SCK_RISE.SHIFT and 0 beside it for every other operation. -/
def Obligations.EncodeOfDecodeInItsContext : Prop :=
  ∀ (w : Osw) (b : Bool) (i : Instr), decode (.ev w b) = .ok i →
    ((∃ c, i = .sckRiseSeed c ∨ i = .sckRiseShift c) → encodeIn w i = .ev w b) ∧
    ((∀ c, i ≠ .sckRiseSeed c ∧ i ≠ .sckRiseShift c) → encodeIn w i = .ev w false)

/-- R77, R78. An operation-select word names an operation exactly when it is none of R78's cases (a), (b), (c), and two rows
never match one word: the operation is the one whose match it shows under its mask. -/
def Obligations.OswMatchesOneRowOrNone : Prop :=
  (∀ (w : Osw) (b : Bool), Osw.wf w = true ↔ ∃ i, decode (.ev w b) = .ok i) ∧
  (∀ (w : Osw) (b : Bool) (i j : Instr), decode (.ev w b) = .ok i → (∀ v, j ≠ .cfgword v) →
    w &&& j.maskBits = j.matchBits → j.maskBits = i.maskBits ∧ j.matchBits = i.matchBits)

/-- A step runs the decoded instruction: with the code word of the next statement decoded, the step is `exec` of it in the
state with that statement taken off (a listed statement making the word that is decoded is the model's choice, log entries 1
and 20); a statement that is no event only sets its input; a word of no row is refused by name (the model's choice, log
entry 11). -/
def Obligations.StepRunsTheDecodedInstruction : Prop :=
  (∀ (s : State) (c : CodeWord) (i : Instr), s.fetch = some c → decode c = .ok i →
    step s = exec i { s with stimulus := s.stimulus.tail }) ∧
  (∀ (s : State) (c : CodeWord) (r : Reject), s.fetch = some c → decode c = .error r →
    step s = .refused (.noSuchOperation r)) ∧
  (∀ s : State, s.fetch = none → step s = .next { s.applyInput with stimulus := s.stimulus.tail })

/-- R77. Which operation each event performs, by the state it meets. The last clause is no row of R77: that a ControlWord entry
runs CFGWORD in one step is the model's choice (log entry 3). -/
def Obligations.EventSelectsOperationByState : Prop :=
  ∀ (s : State) (es : List Stimulus), let u : State := { s with stimulus := es }
    (∀ b, step { s with stimulus := .sckRise b :: es } =
      if s.select then (if s.le then exec (.sckRiseSeed b) u else exec (.sckRiseShift b) u) else exec .sckRiseIdle u) ∧
    (step { s with stimulus := .sckFall :: es } = if s.select then exec .sckFallOut u else exec .sckFallIdle u) ∧
    (s.select = false → step { s with stimulus := .selAssert :: es } = exec .selAssert u) ∧
    (s.select = true → step { s with stimulus := .selDeassert :: es } =
      if s.le then exec .selDeassertNolatch u else exec .selDeassertLatch u) ∧
    (step { s with stimulus := .tick :: es } =
      if s.i = 0#10 then
        match s.state with
        | .delay => exec .tickDelayExit u
        | .convert => exec .tickConvertExit u
        | .readout => exec .tickReadoutExit u
      else exec .tickCount u) ∧
    (∀ w, step { s with stimulus := .cfgWord w :: es } = exec (.cfgword w) u)

/-- R170. There is no fault; every operation, in every state and with every operand, answers a next state; and so does a step
at every statement that is an event or sets an input. -/
def Obligations.EveryOperationAnswersANextState : Prop :=
  (Fault → False) ∧ (∀ (i : Instr) (s : State), ∃ t, exec i s = .next t) ∧
  (∀ s : State, s.noEvent = false → ∃ t, step s = .next t)

/-- R78 (b). A step is refused, by name, where the stimulus is no event: `select` going to the level it has. The refusal is
the model's choice of log entry 11. -/
def Obligations.SelectToItsOwnLevelIsRefused : Prop :=
  ∀ (s : State) (es : List Stimulus),
    (s.select = true → step { s with stimulus := .selAssert :: es } = .refused (.noSuchOperation .selectAlreadyActive)) ∧
    (s.select = false → step { s with stimulus := .selDeassert :: es } = .refused (.noSuchOperation .selectAlreadyInactive))

/-- R80. `DO v` and `ADC v` set their free input and nothing else. -/
def Obligations.InputStatementsSetTheirInput : Prop :=
  ∀ (s : State) (es : List Stimulus),
    (∀ v, step { s with stimulus := .setDo v :: es } = .next { s with doIn := v, stimulus := es }) ∧
    (∀ v, step { s with stimulus := .setAdc v :: es } = .next { s with adcSdo := v, stimulus := es })

/-- A table word placed by `withFetchWord` is what the very next step runs (the interface of log entry 4). -/
def Obligations.PlacedWordRunsNext : Prop :=
  ∀ (s : State) (nbits w : Nat) (i : Instr), decodeTableWord nbits w = some i →
    (s.withFetchWord nbits w).stimulus.tail = s.stimulus ∧
    step (s.withFetchWord nbits w) = exec i { s.withFetchWord nbits w with stimulus := s.stimulus }

/-! ### The machine as a whole -/

/-- R34. The power-on values: the spec's decision D4 (log entry 5); the free inputs' levels and the empty stimulus are the
model's choice (log entries 2 and 6). -/
def Obligations.PowerOnState : Prop :=
  State.reset.state = .delay ∧ State.reset.i = 0#10 ∧ State.reset.di = 0x0000#16 ∧ State.reset.sr = 0x0000#16 ∧
  State.reset.serialOut = false ∧ State.reset.le = true ∧ State.reset.select = false ∧ State.reset.doIn = 0#16 ∧
  State.reset.adcSdo = 0#2 ∧ State.reset.stimulus = []

/-- The invariant holds at power-on (values of log entry 5). -/
def Obligations.InvariantAtPowerOn : Prop := State.reset.Inv

/-- R26, R137. Every step keeps the invariant: `le` is 1 while `select` is inactive, and the counter is at most the reload of
the present state. -/
def Obligations.StepKeepsTheInvariant : Prop :=
  ∀ s t : State, s.Inv → step s = .next t → t.Inv

/-- R154, R22, R96. An event changes `di` only through a 0 to 1 change of `le`, and then to the old `sr`; so `di` changes only
at a latching deselect, or inside a ControlWord's whole frame (log entry 3). -/
def Obligations.OnlyTheLatchPulseWritesDi : Prop :=
  ∀ s t : State, step s = .next t →
    ((∀ w, s.nextStimulus ≠ .cfgWord w) → t.di = if latchPulse s.le t.le then s.sr else s.di) ∧
    (t.di ≠ s.di → (s.nextStimulus = .selDeassert ∧ s.select = true ∧ s.le = false ∧ t.di = s.sr) ∨
      ∃ w, s.nextStimulus = .cfgWord w ∧ t.di = w)

/-- R155. At every event `le` moves as the preset-dominant flip-flop of the edge detector does. -/
def Obligations.LeIsTheEdgeDetector : Prop :=
  ∀ s t : State, (s.select = false → s.le = true) → step s = .next t → (∀ w, s.nextStimulus ≠ .cfgWord w) →
    t.le = edgeDetector t.select (match s.nextStimulus with | .sckRise _ => true | _ => false) s.le

/-- R33. Ownership: a tick writes no SR register, and nothing but a tick writes `state` or `i`. -/
def Obligations.RegistersHaveOneOwner : Prop :=
  ∀ s t : State, step s = .next t →
    (s.nextStimulus = .tick → t.sr = s.sr ∧ t.serialOut = s.serialOut ∧ t.le = s.le ∧ t.di = s.di ∧ t.select = s.select) ∧
    (s.nextStimulus ≠ .tick → t.state = s.state ∧ t.i = s.i)

/-- R160. A tick and a channel event commute, but for a READOUT exit against a write of `di`. -/
def Obligations.TickCommutesWithChannelEvents : Prop :=
  ∀ (s : State) (e : Stimulus), e.isChannel = true →
    ¬ (s.state = .readout ∧ s.i = 0#10 ∧
        ((e = .selDeassert ∧ s.select = true ∧ s.le = false) ∨ ∃ w, e = .cfgWord w)) →
    play [.tick, e] s = play [e, .tick] s

/-- R63, R158. At a READOUT exit against a latch either order is a legal run, and the counter loads the whole new or the
whole old `loop_max`: the new one at the very next tick after the latch. Whole values only are the spec's decision D8
(log entry 9). -/
def Obligations.LatchAgainstReadoutExitLoadsNewOrOld : Prop :=
  ∀ s : State, s.state = .readout → s.i = 0#10 → s.select = true → s.le = false →
    play [.selDeassert, .tick] s = .next { s with stimulus := [], di := s.sr, le := true, select := false, state := .delay,
                                                  i := s.sr.extractLsb' 0 10 } ∧
    play [.tick, .selDeassert] s = .next { s with stimulus := [], di := s.sr, le := true, select := false, state := .delay,
                                                  i := s.di.extractLsb' 0 10 }

/-- R172. A sample edge coinciding with deselection leaves `le` = 1, in either order. Taking both orders is the spec's
decision D8 (log entry 9). -/
def Obligations.DeselectWithSampleEdgePresetsLe : Prop :=
  ∀ (s : State) (b : Bool), s.select = true →
    (∃ t, play [.sckRise b, .selDeassert] s = .next t ∧ t.le = true ∧ t.select = false) ∧
    (∃ t, play [.selDeassert, .sckRise b] s = .next t ∧ t.le = true ∧ t.select = false)

/-- R103. With `select` inactive no script of clock edges, ticks and input changes touches the SR. -/
def Obligations.DeselectedSrIsInert : Prop :=
  ∀ (es : List Stimulus) (s : State), s.select = false →
    (∀ e ∈ es, e ≠ .selAssert ∧ e ≠ .selDeassert ∧ ∀ w, e ≠ .cfgWord w) →
    ∃ t, play es s = .next t ∧ t.sr = s.sr ∧ t.serialOut = s.serialOut ∧ t.le = s.le ∧ t.di = s.di ∧ t.select = false

/-- R102. `serial_in` is not sampled while deselected. -/
def Obligations.SerialInIgnoredWhileDeselected : Prop :=
  ∀ (s : State) (es : List Stimulus) (b c : Bool), s.select = false →
    step { s with stimulus := .sckRise b :: es } = step { s with stimulus := .sckRise c :: es }

/-- R102. `do` is read only at SCK_RISE.SEED (and so inside a ControlWord's frame, log entry 3). -/
def Obligations.DoIsReadOnlyAtTheSeed : Prop :=
  ∀ (s t : State) (v : Word), step s = .next t →
    (∀ b, ¬ (s.nextStimulus = .sckRise b ∧ s.select = true ∧ s.le = true)) → (∀ w, s.nextStimulus ≠ .cfgWord w) →
    (∀ w, s.nextStimulus ≠ .setDo w) → step { s with doIn := v } = .next { t with doIn := v }

/-- R196. Bit 15 of `do` never reaches a register, whatever is played. -/
def Obligations.TopDoBitReachesNoRegister : Prop :=
  ∀ (es : List Stimulus) (s t : State) (v : Word), (∀ k, k < 15 → v.getLsbD k = s.doIn.getLsbD k) →
    play es s = .next t → ∃ d, play es { s with doIn := v } = .next { t with doIn := d }

/-- R130. The ADC lines reach `host_sdo` and nothing else. -/
def Obligations.AdcLinesReachOnlyHostSdo : Prop :=
  (∀ s : State, hostSdo s = s.adcSdo) ∧
  (∀ (es : List Stimulus) (s t : State) (v : AdcLines), play es s = .next t →
    ∃ a, play es { s with adcSdo := v } = .next { t with adcSdo := a })

/-- R23, R72. The FSM sees nothing of `di` but its low ten bits: changing the reserved bits changes no tick. -/
def Obligations.ReservedBitsDoNotReachTheFsm : Prop :=
  ∀ (n : Nat) (s : State) (v : Word), v.extractLsb' 0 10 = s.di.extractLsb' 0 10 →
    ∃ t, play (Stimulus.ticks n) s = .next t ∧ play (Stimulus.ticks n) { s with di := v } = .next { t with di := v }

/-! ### Dwell, cycle and outputs -/

/-- R125, R135, R139. From any state, whatever channel events come between the ticks, the FSM stays for `i` ticks and leaves
at the next one, to its successor and that state's reload. Reload + 1 ticks is the spec's decision D18 (log entry 16). -/
def Obligations.DwellIsReloadPlusOneTicks : Prop :=
  ∀ (es : List Stimulus) (s t : State),
    (play es s = .next t → ticksIn es ≤ s.i.toNat →
      t.state = s.state ∧ t.i.toNat = s.i.toNat - ticksIn es) ∧
    (play (es ++ [.tick]) s = .next t → ticksIn es = s.i.toNat →
      match s.state with
      | .delay => t.state = .convert ∧ t.i = 29#10
      | .convert => t.state = .readout ∧ t.i = 32#10
      | .readout => t.state = .delay ∧ t.i = t.di.extractLsb' 0 10)

/-- R132, R60. The position in the cycle depends on the count of ticks alone: from DELAY with `i` = L the FSM is in DELAY for
the ticks up to L, then 30 ticks in CONVERT, 33 in READOUT, and tick L + 64 enters DELAY again with the `loop_max` that
`di` then holds. The dwell is the spec's decision D18 (log entry 16). -/
def Obligations.CycleLengthIsLoopMaxPlus64 : Prop :=
  ∀ (es : List Stimulus) (s t : State), s.state = .delay →
    (play es s = .next t →
      (ticksIn es ≤ s.i.toNat → t.state = .delay ∧ t.i.toNat = s.i.toNat - ticksIn es) ∧
      (s.i.toNat < ticksIn es → ticksIn es ≤ s.i.toNat + 30 →
        t.state = .convert ∧ t.i.toNat = s.i.toNat + 30 - ticksIn es) ∧
      (s.i.toNat + 30 < ticksIn es → ticksIn es ≤ s.i.toNat + 63 →
        t.state = .readout ∧ t.i.toNat = s.i.toNat + 63 - ticksIn es)) ∧
    (play (es ++ [.tick]) s = .next t → ticksIn es = s.i.toNat + 63 →
      t.state = .delay ∧ t.i = t.di.extractLsb' 0 10)

/-- R126 to R131, R136. The output truth table, with P5. The parity and the idle level of the clock and the absence of
output registers are the spec's decisions D2, D19 and D3 (log entries 12 and 13). -/
def Obligations.OutputTruthTable : Prop :=
  ∀ s : State, outputs s = match s.state with
    | .delay => ⟨s.serialOut, true, false, true, false, s.adcSdo⟩
    | .convert => ⟨s.serialOut, false, false, true, false, s.adcSdo⟩
    | .readout => ⟨s.serialOut, false, s.i.getLsbD 0, false, s.i.getLsbD 0, s.adcSdo⟩

/-- R129. The host-facing clock is the ADC's clock at all times. -/
def Obligations.HostClockMirrorsAdcClock : Prop := ∀ s : State, (outputs s).hostSck = (outputs s).adcSck

/-- R133. In READOUT, entered with `i` = 32, the clock is high exactly after an odd number of ticks: low in the first of the 33
ticks, then sixteen pulses. The parity is the spec's decision D2 (log entry 12). -/
def Obligations.ReadoutWaveformHasSixteenPulses : Prop :=
  (∀ (es : List Stimulus) (s t : State), s.state = .readout → s.i = 32#10 → play es s = .next t → ticksIn es ≤ 32 →
    adcSck t = decide (ticksIn es % 2 = 1) ∧ adcCsN t = false ∧ hostCsN t = false) ∧
  (List.range 33).countP (fun n => n % 2 = 1) = 16

/-- R133. From the entry of CONVERT the ADC is selected and its clock stays low for 31 ticks, at least 220 ns, and is high after
the 31st. The parity and the dwell are the spec's decisions D2 and D18 (log entries 12 and 16). -/
def Obligations.ConversionHoldBeforeFirstClock : Prop :=
  (∀ (es : List Stimulus) (s t : State), s.state = .convert → s.i = 29#10 → play es s = .next t → ticksIn es ≤ 31 →
    adcCsN t = false ∧ (adcSck t = true ↔ ticksIn es = 31)) ∧
  Config.conversionNs * Config.clockMHz ≤ 31 * 1000

/-- R192. The first cycle from power-on with no frame, at its boundaries: the values of log entry 5, the ticks of log
entry 2. -/
def Obligations.FirstCycleFromPowerOn : Prop :=
  (∃ t, run 1 State.reset = .next t ∧ t.state = .convert ∧ t.i = 29#10) ∧
  (∃ t, run 30 State.reset = .next t ∧ t.state = .convert ∧ t.i = 0#10) ∧
  (∃ t, run 31 State.reset = .next t ∧ t.state = .readout ∧ t.i = 32#10) ∧
  (∃ t, run 63 State.reset = .next t ∧ t.state = .readout ∧ t.i = 0#10) ∧
  run 64 State.reset = .next State.reset

/-! ### Whole frames, with ticks anywhere in them -/

/-- P1 (R73, R100). Sixteen clocks deliver the word, for every word, every `do` and every earlier state, with ticks and
changes of the free inputs anywhere between the frame's events. -/
def Obligations.SixteenClockFrameDeliversTheWord : Prop :=
  ∀ (es : List Stimulus) (w : Word) (s : State), s.select = false → channelPart es = Stimulus.xfer16 w →
    ∃ t, play es s = .next t ∧ t.di = w ∧ t.sr = w ∧ t.serialOut = w.getLsbD 15 ∧ t.le = true ∧ t.select = false

/-- R54, R98. A frame of any length n of at least 1 latches the low 16 bits of `do[14:0]` followed by the n bits received, with
ticks anywhere in it. -/
def Obligations.FrameOfAnyLengthLatchesLastBits : Prop :=
  ∀ (es : List Stimulus) (bs : List Bool) (s : State), s.select = false → s.le = true → bs ≠ [] →
    withoutTicks es = Stimulus.frame bs →
    ∃ t, play es s = .next t ∧
      t.di = BitVec.ofNat 16 (s.doIn.toNat % 2 ^ 15 * 2 ^ bs.length + wireValue bs) ∧
      t.sr = t.di ∧ t.serialOut = t.di.getLsbD 15 ∧ t.le = true ∧ t.select = false

/-- P3 (R97, R100). A frame with no clock, with ticks anywhere in it, changes no SR register. -/
def Obligations.EmptyFrameChangesNoSrRegister : Prop :=
  ∀ (es : List Stimulus) (s : State), s.select = false → s.le = true → withoutTicks es = Stimulus.empty →
    ∃ t, play es s = .next t ∧ t.di = s.di ∧ t.sr = s.sr ∧ t.serialOut = s.serialOut ∧ t.le = true ∧ t.select = false

/-- R101, R99. What the host reads: after the k-th falling edge of a frame `serial_out` is bit 15 - k of `do` for k up to 15, and
from the 16th on the host's own bits come back, with ticks anywhere in between. -/
def Obligations.SerialOutSendsDoThenTheHostsBits : Prop :=
  ∀ (es : List Stimulus) (bs : List Bool) (s : State), s.select = false → s.le = true → bs ≠ [] →
    withoutTicks es = .selAssert :: Stimulus.clocks bs →
    ∃ t, play es s = .next t ∧
      (bs.length ≤ 15 → t.serialOut = s.doIn.getLsbD (15 - bs.length)) ∧
      (15 < bs.length → t.serialOut = bs.getD (bs.length - 16) false)

/-- R193, R60. Setting the period, end to end: after a frame that carries `w`, with ticks anywhere and then any ticks, the next
READOUT exit loads `w[9:0]`. The full ten bits are the spec's decision D1 (log entry 7). -/
def Obligations.FrameSetsTheNextPeriod : Prop :=
  ∀ (es fs : List Stimulus) (w : Word) (s u : State), s.select = false → channelPart es = Stimulus.xfer16 w →
    channelPart fs = [] → play (es ++ fs) s = .next u → u.state = .readout → u.i = 0#10 →
    play (es ++ fs ++ [.tick]) s = .next { u with state := .delay, i := w.extractLsb' 0 10 }

/-- R157. The edge functions are R157's equations; for every pair of samples the events found are SEL+, SEL-, RISE with the later
`serial_in` and FALL, each exactly where its line changes so, one for each line that changed, and in each order they alternate
from the earlier levels; and for every change of both lines both orders are given. The later sample's `serial_in` is the
model's reading (log entry 22); taking both orders is the spec's decision D8 (R160, log entry 9). -/
def Obligations.SampledPinsGiveWellFormedEvents : Prop :=
  (∀ prev now : Pins,
    deselectEdge prev now = (prev.select && !now.select) ∧ selectEdge prev now = (!prev.select && now.select) ∧
    clockRise prev now = (!prev.sck && now.sck) ∧ clockFall prev now = (prev.sck && !now.sck)) ∧
  (∀ prev now : Pins, eventOrders prev now ≠ [] ∧ ∀ es ∈ eventOrders prev now,
    (Stimulus.selAssert ∈ es ↔ prev.select = false ∧ now.select = true) ∧
    (Stimulus.selDeassert ∈ es ↔ prev.select = true ∧ now.select = false) ∧
    (∀ b, Stimulus.sckRise b ∈ es ↔ prev.sck = false ∧ now.sck = true ∧ b = now.serialIn) ∧
    (Stimulus.sckFall ∈ es ↔ prev.sck = true ∧ now.sck = false) ∧
    es.length = (prev.select != now.select).toNat + (prev.sck != now.sck).toNat ∧
    selectAlternates prev.select es = true ∧ edgesAlternate prev.sck es = true) ∧
  (∀ prev now : Pins, prev.select ≠ now.select → prev.sck ≠ now.sck →
    let e : Stimulus := if now.select then .selAssert else .selDeassert
    let f : Stimulus := if now.sck then .sckRise now.serialIn else .sckFall
    [e, f] ∈ eventOrders prev now ∧ [f, e] ∈ eventOrders prev now)
end

