-- ==== Sys2Proof/Laws/Decode.lean ====
section
/-! SUPPORT. What the decoder reads from the operation-select word that the machine itself makes: the conditions of
`30_encoding.md` R77, event by event. -/

namespace Sys2Proof.Machine

/-- The operation a tick selects. -/
theorem decode_tick (s : State) (b : Bool) :
    decode (.ev (oswOf 0#3 s) b) = .ok (
      if counterZero s.i then
        match s.state with
        | .delay => .tickDelayExit
        | .convert => .tickConvertExit
        | .readout => .tickReadoutExit
      else .tickCount) := by
  unfold oswOf
  cases s.select <;> cases s.le <;> cases s.state <;> cases counterZero s.i <;> cases b <;> rfl

/-- The operation a rising edge selects. -/
theorem decode_sckRise (s : State) (b : Bool) :
    decode (.ev (oswOf 2#3 s) b) = .ok (
      if s.select then (if s.le then .sckRiseSeed b else .sckRiseShift b) else .sckRiseIdle) := by
  unfold oswOf
  cases s.select <;> cases s.le <;> cases s.state <;> cases counterZero s.i <;> cases b <;> rfl

/-- The operation a falling edge selects. -/
theorem decode_sckFall (s : State) (b : Bool) :
    decode (.ev (oswOf 3#3 s) b) = .ok (if s.select then .sckFallOut else .sckFallIdle) := by
  unfold oswOf
  cases s.select <;> cases s.le <;> cases s.state <;> cases counterZero s.i <;> cases b <;> rfl

/-- `select` going active is an event only while it is inactive (`30_encoding.md` R78 (b)). -/
theorem decode_selAssert (s : State) (b : Bool) :
    decode (.ev (oswOf 1#3 s) b) =
      if s.select then .error .selectAlreadyActive else .ok .selAssert := by
  unfold oswOf
  cases s.select <;> cases s.le <;> cases s.state <;> cases counterZero s.i <;> cases b <;> rfl

/-- `select` going inactive is an event only while it is active (`30_encoding.md` R78 (b)). -/
theorem decode_selDeassert (s : State) (b : Bool) :
    decode (.ev (oswOf 4#3 s) b) =
      if s.select then .ok (if s.le then .selDeassertNolatch else .selDeassertLatch)
      else .error .selectAlreadyInactive := by
  unfold oswOf
  cases s.select <;> cases s.le <;> cases s.state <;> cases counterZero s.i <;> cases b <;> rfl

end Sys2Proof.Machine
end

