-- ==== Sys2Proof/Laws/State.lean ====
section
/-! SUPPORT. One lemma per field per setter: what each write of one field does to every field. -/

namespace Sys2Proof.Machine

@[simp] theorem State.setSr_sr (s : State) (v : Word) : (s.setSr v).sr = v := rfl
@[simp] theorem State.setSr_serialOut (s : State) (v : Word) : (s.setSr v).serialOut = s.serialOut := rfl
@[simp] theorem State.setSr_le (s : State) (v : Word) : (s.setSr v).le = s.le := rfl
@[simp] theorem State.setSr_di (s : State) (v : Word) : (s.setSr v).di = s.di := rfl
@[simp] theorem State.setSr_state (s : State) (v : Word) : (s.setSr v).state = s.state := rfl
@[simp] theorem State.setSr_i (s : State) (v : Word) : (s.setSr v).i = s.i := rfl
@[simp] theorem State.setSr_select (s : State) (v : Word) : (s.setSr v).select = s.select := rfl
@[simp] theorem State.setSr_doIn (s : State) (v : Word) : (s.setSr v).doIn = s.doIn := rfl
@[simp] theorem State.setSr_adcSdo (s : State) (v : Word) : (s.setSr v).adcSdo = s.adcSdo := rfl
@[simp] theorem State.setSr_stimulus (s : State) (v : Word) : (s.setSr v).stimulus = s.stimulus := rfl

@[simp] theorem State.setSerialOut_sr (s : State) (b : Bool) : (s.setSerialOut b).sr = s.sr := rfl
@[simp] theorem State.setSerialOut_serialOut (s : State) (b : Bool) : (s.setSerialOut b).serialOut = b := rfl
@[simp] theorem State.setSerialOut_le (s : State) (b : Bool) : (s.setSerialOut b).le = s.le := rfl
@[simp] theorem State.setSerialOut_di (s : State) (b : Bool) : (s.setSerialOut b).di = s.di := rfl
@[simp] theorem State.setSerialOut_state (s : State) (b : Bool) : (s.setSerialOut b).state = s.state := rfl
@[simp] theorem State.setSerialOut_i (s : State) (b : Bool) : (s.setSerialOut b).i = s.i := rfl
@[simp] theorem State.setSerialOut_select (s : State) (b : Bool) : (s.setSerialOut b).select = s.select := rfl
@[simp] theorem State.setSerialOut_doIn (s : State) (b : Bool) : (s.setSerialOut b).doIn = s.doIn := rfl
@[simp] theorem State.setSerialOut_adcSdo (s : State) (b : Bool) : (s.setSerialOut b).adcSdo = s.adcSdo := rfl
@[simp] theorem State.setSerialOut_stimulus (s : State) (b : Bool) : (s.setSerialOut b).stimulus = s.stimulus := rfl

@[simp] theorem State.setLe_sr (s : State) (b : Bool) : (s.setLe b).sr = s.sr := rfl
@[simp] theorem State.setLe_serialOut (s : State) (b : Bool) : (s.setLe b).serialOut = s.serialOut := rfl
@[simp] theorem State.setLe_le (s : State) (b : Bool) : (s.setLe b).le = b := rfl
@[simp] theorem State.setLe_di (s : State) (b : Bool) : (s.setLe b).di = s.di := rfl
@[simp] theorem State.setLe_state (s : State) (b : Bool) : (s.setLe b).state = s.state := rfl
@[simp] theorem State.setLe_i (s : State) (b : Bool) : (s.setLe b).i = s.i := rfl
@[simp] theorem State.setLe_select (s : State) (b : Bool) : (s.setLe b).select = s.select := rfl
@[simp] theorem State.setLe_doIn (s : State) (b : Bool) : (s.setLe b).doIn = s.doIn := rfl
@[simp] theorem State.setLe_adcSdo (s : State) (b : Bool) : (s.setLe b).adcSdo = s.adcSdo := rfl
@[simp] theorem State.setLe_stimulus (s : State) (b : Bool) : (s.setLe b).stimulus = s.stimulus := rfl

@[simp] theorem State.setDi_sr (s : State) (v : Word) : (s.setDi v).sr = s.sr := rfl
@[simp] theorem State.setDi_serialOut (s : State) (v : Word) : (s.setDi v).serialOut = s.serialOut := rfl
@[simp] theorem State.setDi_le (s : State) (v : Word) : (s.setDi v).le = s.le := rfl
@[simp] theorem State.setDi_di (s : State) (v : Word) : (s.setDi v).di = v := rfl
@[simp] theorem State.setDi_state (s : State) (v : Word) : (s.setDi v).state = s.state := rfl
@[simp] theorem State.setDi_i (s : State) (v : Word) : (s.setDi v).i = s.i := rfl
@[simp] theorem State.setDi_select (s : State) (v : Word) : (s.setDi v).select = s.select := rfl
@[simp] theorem State.setDi_doIn (s : State) (v : Word) : (s.setDi v).doIn = s.doIn := rfl
@[simp] theorem State.setDi_adcSdo (s : State) (v : Word) : (s.setDi v).adcSdo = s.adcSdo := rfl
@[simp] theorem State.setDi_stimulus (s : State) (v : Word) : (s.setDi v).stimulus = s.stimulus := rfl

@[simp] theorem State.setState_sr (s : State) (f : FsmState) : (s.setState f).sr = s.sr := rfl
@[simp] theorem State.setState_serialOut (s : State) (f : FsmState) : (s.setState f).serialOut = s.serialOut := rfl
@[simp] theorem State.setState_le (s : State) (f : FsmState) : (s.setState f).le = s.le := rfl
@[simp] theorem State.setState_di (s : State) (f : FsmState) : (s.setState f).di = s.di := rfl
@[simp] theorem State.setState_state (s : State) (f : FsmState) : (s.setState f).state = f := rfl
@[simp] theorem State.setState_i (s : State) (f : FsmState) : (s.setState f).i = s.i := rfl
@[simp] theorem State.setState_select (s : State) (f : FsmState) : (s.setState f).select = s.select := rfl
@[simp] theorem State.setState_doIn (s : State) (f : FsmState) : (s.setState f).doIn = s.doIn := rfl
@[simp] theorem State.setState_adcSdo (s : State) (f : FsmState) : (s.setState f).adcSdo = s.adcSdo := rfl
@[simp] theorem State.setState_stimulus (s : State) (f : FsmState) : (s.setState f).stimulus = s.stimulus := rfl

@[simp] theorem State.setI_sr (s : State) (v : Counter) : (s.setI v).sr = s.sr := rfl
@[simp] theorem State.setI_serialOut (s : State) (v : Counter) : (s.setI v).serialOut = s.serialOut := rfl
@[simp] theorem State.setI_le (s : State) (v : Counter) : (s.setI v).le = s.le := rfl
@[simp] theorem State.setI_di (s : State) (v : Counter) : (s.setI v).di = s.di := rfl
@[simp] theorem State.setI_state (s : State) (v : Counter) : (s.setI v).state = s.state := rfl
@[simp] theorem State.setI_i (s : State) (v : Counter) : (s.setI v).i = v := rfl
@[simp] theorem State.setI_select (s : State) (v : Counter) : (s.setI v).select = s.select := rfl
@[simp] theorem State.setI_doIn (s : State) (v : Counter) : (s.setI v).doIn = s.doIn := rfl
@[simp] theorem State.setI_adcSdo (s : State) (v : Counter) : (s.setI v).adcSdo = s.adcSdo := rfl
@[simp] theorem State.setI_stimulus (s : State) (v : Counter) : (s.setI v).stimulus = s.stimulus := rfl

@[simp] theorem State.setSelect_sr (s : State) (b : Bool) : (s.setSelect b).sr = s.sr := rfl
@[simp] theorem State.setSelect_serialOut (s : State) (b : Bool) : (s.setSelect b).serialOut = s.serialOut := rfl
@[simp] theorem State.setSelect_le (s : State) (b : Bool) : (s.setSelect b).le = s.le := rfl
@[simp] theorem State.setSelect_di (s : State) (b : Bool) : (s.setSelect b).di = s.di := rfl
@[simp] theorem State.setSelect_state (s : State) (b : Bool) : (s.setSelect b).state = s.state := rfl
@[simp] theorem State.setSelect_i (s : State) (b : Bool) : (s.setSelect b).i = s.i := rfl
@[simp] theorem State.setSelect_select (s : State) (b : Bool) : (s.setSelect b).select = b := rfl
@[simp] theorem State.setSelect_doIn (s : State) (b : Bool) : (s.setSelect b).doIn = s.doIn := rfl
@[simp] theorem State.setSelect_adcSdo (s : State) (b : Bool) : (s.setSelect b).adcSdo = s.adcSdo := rfl
@[simp] theorem State.setSelect_stimulus (s : State) (b : Bool) : (s.setSelect b).stimulus = s.stimulus := rfl

@[simp] theorem State.setDoIn_sr (s : State) (v : Word) : (s.setDoIn v).sr = s.sr := rfl
@[simp] theorem State.setDoIn_serialOut (s : State) (v : Word) : (s.setDoIn v).serialOut = s.serialOut := rfl
@[simp] theorem State.setDoIn_le (s : State) (v : Word) : (s.setDoIn v).le = s.le := rfl
@[simp] theorem State.setDoIn_di (s : State) (v : Word) : (s.setDoIn v).di = s.di := rfl
@[simp] theorem State.setDoIn_state (s : State) (v : Word) : (s.setDoIn v).state = s.state := rfl
@[simp] theorem State.setDoIn_i (s : State) (v : Word) : (s.setDoIn v).i = s.i := rfl
@[simp] theorem State.setDoIn_select (s : State) (v : Word) : (s.setDoIn v).select = s.select := rfl
@[simp] theorem State.setDoIn_doIn (s : State) (v : Word) : (s.setDoIn v).doIn = v := rfl
@[simp] theorem State.setDoIn_adcSdo (s : State) (v : Word) : (s.setDoIn v).adcSdo = s.adcSdo := rfl
@[simp] theorem State.setDoIn_stimulus (s : State) (v : Word) : (s.setDoIn v).stimulus = s.stimulus := rfl

@[simp] theorem State.setAdcSdo_sr (s : State) (v : AdcLines) : (s.setAdcSdo v).sr = s.sr := rfl
@[simp] theorem State.setAdcSdo_serialOut (s : State) (v : AdcLines) : (s.setAdcSdo v).serialOut = s.serialOut := rfl
@[simp] theorem State.setAdcSdo_le (s : State) (v : AdcLines) : (s.setAdcSdo v).le = s.le := rfl
@[simp] theorem State.setAdcSdo_di (s : State) (v : AdcLines) : (s.setAdcSdo v).di = s.di := rfl
@[simp] theorem State.setAdcSdo_state (s : State) (v : AdcLines) : (s.setAdcSdo v).state = s.state := rfl
@[simp] theorem State.setAdcSdo_i (s : State) (v : AdcLines) : (s.setAdcSdo v).i = s.i := rfl
@[simp] theorem State.setAdcSdo_select (s : State) (v : AdcLines) : (s.setAdcSdo v).select = s.select := rfl
@[simp] theorem State.setAdcSdo_doIn (s : State) (v : AdcLines) : (s.setAdcSdo v).doIn = s.doIn := rfl
@[simp] theorem State.setAdcSdo_adcSdo (s : State) (v : AdcLines) : (s.setAdcSdo v).adcSdo = v := rfl
@[simp] theorem State.setAdcSdo_stimulus (s : State) (v : AdcLines) : (s.setAdcSdo v).stimulus = s.stimulus := rfl

@[simp] theorem State.setStimulus_sr (s : State) (es : List Stimulus) : (s.setStimulus es).sr = s.sr := rfl
@[simp] theorem State.setStimulus_serialOut (s : State) (es : List Stimulus) : (s.setStimulus es).serialOut = s.serialOut := rfl
@[simp] theorem State.setStimulus_le (s : State) (es : List Stimulus) : (s.setStimulus es).le = s.le := rfl
@[simp] theorem State.setStimulus_di (s : State) (es : List Stimulus) : (s.setStimulus es).di = s.di := rfl
@[simp] theorem State.setStimulus_state (s : State) (es : List Stimulus) : (s.setStimulus es).state = s.state := rfl
@[simp] theorem State.setStimulus_i (s : State) (es : List Stimulus) : (s.setStimulus es).i = s.i := rfl
@[simp] theorem State.setStimulus_select (s : State) (es : List Stimulus) : (s.setStimulus es).select = s.select := rfl
@[simp] theorem State.setStimulus_doIn (s : State) (es : List Stimulus) : (s.setStimulus es).doIn = s.doIn := rfl
@[simp] theorem State.setStimulus_adcSdo (s : State) (es : List Stimulus) : (s.setStimulus es).adcSdo = s.adcSdo := rfl
@[simp] theorem State.setStimulus_stimulus (s : State) (es : List Stimulus) : (s.setStimulus es).stimulus = es := rfl

end Sys2Proof.Machine
end

