-- ==== Sys2Proof/Laws/Ops.lean ====
section
/-! SUPPORT. For each shared operation one lemma that says once everything it does, and the bits of the values the
operations form. -/

namespace Sys2Proof.Machine

/-! ### Values -/

/-- The incoming bit enters at bit 0 (`40_sr_operations.md` R91, R92). -/
theorem shiftedIn_bit_zero (v : Word) (b : Bool) : (shiftedIn v b).getLsbD 0 = b := by
  simp [shiftedIn]

/-- Bit `k + 1` is the old bit `k` (`40_sr_operations.md` R91, R92). -/
theorem shiftedIn_bit_succ (v : Word) (b : Bool) (k : Nat) (h : k < 15) :
    (shiftedIn v b).getLsbD (k + 1) = v.getLsbD k := by
  have hk : k + 1 < Config.wordWidth := Nat.succ_lt_succ h
  rw [shiftedIn, BitVec.getLsbD_shiftConcat, decide_eq_true hk]
  rfl

/-- The shifted word as a number: twice the old one and the incoming bit, the top bit dropped. -/
theorem shiftedIn_toNat (v : Word) (b : Bool) : (shiftedIn v b).toNat = (2 * v.toNat + b.toNat) % 2 ^ 16 := by
  simp only [shiftedIn, BitVec.toNat_shiftConcat, Nat.shiftLeft_eq, pow_one, Nat.mul_comm]

/-- The reload on entering DELAY is `loop_max` modulo the counter (`41_fsm_operations.md` R138). -/
theorem delayReload_toNat (di : Word) :
    (delayReload di).toNat = di.toNat % 2 ^ Config.loopWidth % 2 ^ Config.wordWidth % 2 ^ Config.counterWidth := by
  simp [delayReload, loopMax]

/-- With `CNT_W` = 10 the reload on entering DELAY is `loop_max` itself (`41_fsm_operations.md` R138). -/
theorem delayReload_eq (di : Word) : delayReload di = di.extractLsb' 0 10 := by
  apply BitVec.eq_of_toNat_eq
  rw [delayReload_toNat, BitVec.extractLsb'_toNat]
  simp [Config.loopWidth, Config.wordWidth, Config.counterWidth]

/-- The reload on entering CONVERT is 29 (`00_scope.md` R8). -/
theorem convertReload_eq : convertReload = 29#10 := rfl

/-- The reload on entering READOUT is 32 (`00_scope.md` R7). -/
theorem readoutReload_eq : readoutReload = 32#10 := rfl

/-- The zero test is equality with 0. -/
theorem counterZero_iff (i : Counter) : counterZero i = true ↔ i = 0#10 := by
  simp [counterZero]

/-- The count of a tick with `i` ≠ 0 does not borrow (`41_fsm_operations.md` R137). -/
theorem countDown_toNat (s : State) (h : s.i ≠ 0#10) : (countDown s).i.toNat = s.i.toNat - 1 := by
  have : s.i.toNat ≠ 0 := fun e => h (BitVec.eq_of_toNat_eq (by simpa using e))
  simp only [countDown, State.setI_i]
  rw [BitVec.toNat_sub_of_le (by simp [BitVec.le_def]; omega)]
  rfl

/-! ### Operations -/

/-- SEL_ASSERT raises the level and writes nothing else. -/
theorem selectOn_eq (s : State) : selectOn s = { s with select := true } := rfl

/-- The first edge writes `sr` from `do` and clears `le`. -/
theorem seedEdge_eq (b : Bool) (s : State) : seedEdge b s = { s with sr := shiftedIn s.doIn b, le := false } := rfl

/-- A later edge writes `sr` from itself and clears `le`. -/
theorem shiftEdge_eq (b : Bool) (s : State) : shiftEdge b s = { s with sr := shiftedIn s.sr b, le := false } := rfl

/-- A falling edge writes `serial_out`. -/
theorem outEdge_eq (s : State) : outEdge s = { s with serialOut := msb s.sr } := rfl

/-- The latching deselect writes `di`, `le` and the level. -/
theorem latchOff_eq (s : State) : latchOff s = { s with di := s.sr, le := true, select := false } := rfl

/-- The deselect without a latch writes the level. -/
theorem noLatchOff_eq (s : State) : noLatchOff s = { s with select := false } := rfl

/-- Counting writes `i`. -/
theorem countDown_eq (s : State) : countDown s = { s with i := s.i - 1#10 } := rfl

/-- Entering a state writes `state` and `i`. -/
theorem enter_eq (f : FsmState) (s : State) : enter f s = { s with state := f, i := reloadOf s.di f } := rfl

/-- A rising edge while selected: `sr` takes the bit in below `do` or below itself, as `le` says, and `le` is cleared. -/
theorem sampleEdge_eq (b : Bool) (s : State) :
    sampleEdge b s = { s with sr := shiftedIn (if s.le then s.doIn else s.sr) b, le := false } := by
  unfold sampleEdge
  split <;> rfl

/-- One clock of a frame. -/
theorem clockBit_eq (b : Bool) (s : State) :
    clockBit b s =
      { s with sr := shiftedIn (if s.le then s.doIn else s.sr) b, le := false,
               serialOut := msb (shiftedIn (if s.le then s.doIn else s.sr) b) } := by
  unfold clockBit
  rw [sampleEdge_eq]
  rfl

/-- The clocks of a frame write `sr`, `le` and `serial_out` only. -/
theorem clockBits_frame (n : Nat) (v : Word) (s : State) :
    clockBits n v s =
      { s with sr := (clockBits n v s).sr, le := (clockBits n v s).le, serialOut := (clockBits n v s).serialOut } := by
  induction n generalizing s with
  | zero => rfl
  | succ n ih =>
    unfold clockBits
    rw [ih, clockBit_eq]

/-- Deselecting, with or without a latch. -/
theorem selectOff_eq (s : State) :
    selectOff s = { s with di := if s.le then s.di else s.sr, le := true, select := false } := by
  unfold selectOff
  split
  next h => rw [noLatchOff_eq]; cases s; simp_all
  next h => rfl

end Sys2Proof.Machine
end

