-- ==== Sys2Proof/Laws/Exec.lean ====
section
/-! SUPPORT. What `exec` answers for each instruction, in terms of its shared operation, and what no instruction touches. -/

namespace Sys2Proof.Machine

@[simp] theorem exec_cfgword (w : Word) (s : State) : exec (.cfgword w) s = .next (sendControlWord w s) := rfl
@[simp] theorem exec_tickCount (s : State) : exec .tickCount s = .next (countDown s) := rfl
@[simp] theorem exec_tickDelayExit (s : State) : exec .tickDelayExit s = .next (enter .convert s) := rfl
@[simp] theorem exec_tickConvertExit (s : State) : exec .tickConvertExit s = .next (enter .readout s) := rfl
@[simp] theorem exec_tickReadoutExit (s : State) : exec .tickReadoutExit s = .next (enter .delay s) := rfl
@[simp] theorem exec_selAssert (s : State) : exec .selAssert s = .next (selectOn s) := rfl
@[simp] theorem exec_sckRiseSeed (b : Bool) (s : State) : exec (.sckRiseSeed b) s = .next (seedEdge b s) := rfl
@[simp] theorem exec_sckRiseShift (b : Bool) (s : State) : exec (.sckRiseShift b) s = .next (shiftEdge b s) := rfl
@[simp] theorem exec_sckRiseIdle (s : State) : exec .sckRiseIdle s = .next s := rfl
@[simp] theorem exec_sckFallOut (s : State) : exec .sckFallOut s = .next (outEdge s) := rfl
@[simp] theorem exec_sckFallIdle (s : State) : exec .sckFallIdle s = .next s := rfl
@[simp] theorem exec_selDeassertLatch (s : State) : exec .selDeassertLatch s = .next (latchOff s) := rfl
@[simp] theorem exec_selDeassertNolatch (s : State) : exec .selDeassertNolatch s = .next (noLatchOff s) := rfl

/-- A whole frame leaves the FSM, the free inputs and the stimulus alone, and ends deselected with `le` preset. -/
theorem sendControlWord_frame (w : Word) (s : State) :
    ∃ sr so di, sendControlWord w s =
      { s with sr := sr, serialOut := so, di := di, le := true, select := false } := by
  unfold sendControlWord
  rw [selectOff_eq, clockBits_frame]
  exact ⟨_, _, _, rfl⟩

/-- No instruction touches the free inputs or the stimulus. -/
theorem exec_leaves_inputs (i : Instr) (s t : State) (h : exec i s = .next t) :
    t.doIn = s.doIn ∧ t.adcSdo = s.adcSdo ∧ t.stimulus = s.stimulus := by
  cases i
  case cfgword w =>
    obtain ⟨_, _, _, e⟩ := sendControlWord_frame w s
    rw [exec_cfgword, e] at h
    cases h
    exact ⟨rfl, rfl, rfl⟩
  all_goals
    cases h
    exact ⟨rfl, rfl, rfl⟩

end Sys2Proof.Machine
end

