-- ==== Sys2Proof/Laws/Flags.lean ====
section
/-! SUPPORT. The flip-flop `le` as a component: its small lemmas (`42_clock_domains.md` R154, R155). -/

namespace Sys2Proof.Machine

/-- The preset is dominant: deselected, the flip-flop is 1 whatever the clock does (`60_exceptions.md` R172). -/
theorem edgeDetector_preset (edge le : Bool) : edgeDetector false edge le = true := rfl

/-- A sample edge while selected clears it. -/
theorem edgeDetector_clear (le : Bool) : edgeDetector true true le = false := rfl

/-- With no edge and no preset it holds. -/
theorem edgeDetector_hold (le : Bool) : edgeDetector true false le = le := rfl

/-- The latch pulse is a 0 to 1 change and nothing else. -/
theorem latchPulse_iff (a b : Bool) : latchPulse a b = true ↔ a = false ∧ b = true := by
  cases a <;> cases b <;> decide

end Sys2Proof.Machine
end

