-- ==== Sys2Proof/Laws/PerInstr.lean ====
section
/-! SUPPORT. Statements for all instructions, one lemma per constructor. -/

namespace Sys2Proof.Laws.RowMatch

/-- The encoding with every free bit 0 carries its row's match bits under its row's mask (`30_encoding.md` R77); a ControlWord's
encoding is the word itself (R70). -/
def Statement (i : Instr) : Prop :=
  match encode i with
  | .cw w => i = .cfgword w
  | .ev osw _ => osw &&& i.maskBits = i.matchBits

theorem cfgword (w : Word) : Statement (.cfgword w) := rfl
theorem tickCount : Statement .tickCount := rfl
theorem tickDelayExit : Statement .tickDelayExit := rfl
theorem tickConvertExit : Statement .tickConvertExit := rfl
theorem tickReadoutExit : Statement .tickReadoutExit := rfl
theorem selAssert : Statement .selAssert := rfl
theorem sckRiseSeed (b : Bool) : Statement (.sckRiseSeed b) := by cases b <;> rfl
theorem sckRiseShift (b : Bool) : Statement (.sckRiseShift b) := by cases b <;> rfl
theorem sckRiseIdle : Statement .sckRiseIdle := rfl
theorem sckFallOut : Statement .sckFallOut := rfl
theorem sckFallIdle : Statement .sckFallIdle := rfl
theorem selDeassertLatch : Statement .selDeassertLatch := rfl
theorem selDeassertNolatch : Statement .selDeassertNolatch := rfl

end Sys2Proof.Laws.RowMatch
end

