-- ==== Sys2Proof/Laws/Step.lean ====
section
/-! SUPPORT. What one step does for each statement of the stimulus, what a step leaves on the list, and a script played one
statement at a time. -/

namespace Sys2Proof.Machine

/-- With an event's code word decoded, the step runs the operation in the state that is left. -/
theorem step_of_fetch {s : State} {c : CodeWord} {i : Instr} (hf : s.fetch = some c) (hd : decode c = .ok i) :
    step s = exec i s.advance := by
  simp only [step, hf, hd]

/-- A tick. -/
theorem step_tick {s : State} (h : s.nextStimulus = .tick) :
    step s = .next (if counterZero s.i then enter (nextState s.state) s.advance else countDown s.advance) := by
  have hf : s.fetch = some (.ev (oswOf 0#3 s) false) := by simp only [State.fetch, h]
  rw [step_of_fetch hf (decode_tick s false)]
  cases counterZero s.i
  · rfl
  · cases s.state <;> rfl

/-- A rising edge of the serial clock. -/
theorem step_sckRise {s : State} {b : Bool} (h : s.nextStimulus = .sckRise b) :
    step s = .next (if s.select then sampleEdge b s.advance else s.advance) := by
  have hf : s.fetch = some (.ev (oswOf 2#3 s) b) := by simp only [State.fetch, h]
  rw [step_of_fetch hf (decode_sckRise s b)]
  unfold sampleEdge
  have hle : s.advance.le = s.le := rfl
  rw [hle]
  cases s.select <;> cases s.le <;> rfl

/-- A falling edge of the serial clock. -/
theorem step_sckFall {s : State} (h : s.nextStimulus = .sckFall) :
    step s = .next (if s.select then outEdge s.advance else s.advance) := by
  have hf : s.fetch = some (.ev (oswOf 3#3 s) false) := by simp only [State.fetch, h]
  rw [step_of_fetch hf (decode_sckFall s false)]
  cases s.select <;> rfl

/-- `select` going active. -/
theorem step_selAssert {s : State} (h : s.nextStimulus = .selAssert) :
    step s = if s.select then .refused (.noSuchOperation .selectAlreadyActive) else .next (selectOn s.advance) := by
  have hf : s.fetch = some (.ev (oswOf 1#3 s) false) := by simp only [State.fetch, h]
  simp only [step, hf, decode_selAssert]
  cases s.select <;> rfl

/-- `select` going inactive. -/
theorem step_selDeassert {s : State} (h : s.nextStimulus = .selDeassert) :
    step s = if s.select then .next (selectOff s.advance) else .refused (.noSuchOperation .selectAlreadyInactive) := by
  have hf : s.fetch = some (.ev (oswOf 4#3 s) false) := by simp only [State.fetch, h]
  simp only [step, hf, decode_selDeassert]
  unfold selectOff
  have hle : s.advance.le = s.le := rfl
  rw [hle]
  cases s.select <;> cases s.le <;> rfl

/-- A change of the free input `do`. -/
theorem step_setDo {s : State} {v : Word} (h : s.nextStimulus = .setDo v) :
    step s = .next (s.setDoIn v).advance := by
  simp only [step, State.fetch, State.applyInput, h]

/-- A change of the ADC's data lines. -/
theorem step_setAdc {s : State} {v : AdcLines} (h : s.nextStimulus = .setAdc v) :
    step s = .next (s.setAdcSdo v).advance := by
  simp only [step, State.fetch, State.applyInput, h]

/-- A ControlWord delivered by its frame. -/
theorem step_cfgWord {s : State} {w : Word} (h : s.nextStimulus = .cfgWord w) :
    step s = .next (sendControlWord w s.advance) := by
  have hf : s.fetch = some (.cw w) := by simp only [State.fetch, h]
  exact step_of_fetch hf rfl

/-- A step takes exactly one statement off the list. -/
theorem step_stimulus {s t : State} (h : step s = .next t) : t.stimulus = s.stimulus.tail := by
  unfold step at h
  split at h
  · have : s.applyInput.stimulus = s.stimulus := by
      unfold State.applyInput
      split <;> rfl
    cases h
    show s.applyInput.stimulus.tail = _
    rw [this]
  · split at h
    · exact (exec_leaves_inputs _ _ _ h).2.2
    · cases h

/-- A run of `k + 1` steps is one step and then `k` more. -/
theorem run_succ (k : Nat) (s : State) :
    run (k + 1) s =
      match step s with
      | .next t => run k t
      | .fault r => .fault r
      | .refused r => .refused r := by
  have core_step : Sys2Proof.core.step s = step s := rfl
  cases h : step s <;> simp only [run, Host.Core.run.eq_def Sys2Proof.core (k + 1) s, core_step, h] <;> rfl

/-- Playing an empty script only clears the list. -/
theorem play_nil (s : State) : play [] s = .next (s.setStimulus []) := rfl

/-- Playing a script is one step and then the rest of the script. -/
theorem play_cons (e : Stimulus) (es : List Stimulus) (s : State) :
    play (e :: es) s =
      match step (s.setStimulus (e :: es)) with
      | .next t => play es t
      | .fault r => .fault r
      | .refused r => .refused r := by
  rw [play, List.length_cons, run_succ]
  cases h : step (s.setStimulus (e :: es)) with
  | next t =>
    have ht : t.stimulus = es := step_stimulus h
    have : t.setStimulus es = t := by cases t; cases ht; rfl
    simp only [play, this]
  | fault r => rfl
  | refused r => rfl

/-- What stands on the list after the next statement changes nothing a step does but the list that is left. -/
theorem step_rest (e : Stimulus) (es fs : List Stimulus) (s : State) :
    step (s.setStimulus (e :: es)) =
      match step (s.setStimulus (e :: fs)) with
      | .next t => .next (t.setStimulus es)
      | .fault r => .fault r
      | .refused r => .refused r := by
  cases e with
  | tick =>
    rw [step_tick rfl, step_tick rfl]
    by_cases h : counterZero s.i = true
    · have hz : ∀ xs, counterZero (s.setStimulus xs).i = true := fun _ => h
      rw [if_pos (hz _), if_pos (hz _)]; rfl
    · have hz : ∀ xs, ¬ counterZero (s.setStimulus xs).i = true := fun _ => h
      rw [if_neg (hz _), if_neg (hz _)]; rfl
  | selAssert =>
    rw [step_selAssert rfl, step_selAssert rfl]
    obtain ⟨_, _, _, _, _, _, select, _, _, _⟩ := s
    cases select <;> rfl
  | selDeassert =>
    rw [step_selDeassert rfl, step_selDeassert rfl]
    obtain ⟨_, _, le, _, _, _, select, _, _, _⟩ := s
    cases select <;> cases le <;> rfl
  | sckRise b =>
    rw [step_sckRise rfl, step_sckRise rfl]
    obtain ⟨_, _, le, _, _, _, select, _, _, _⟩ := s
    cases select <;> cases le <;> rfl
  | sckFall =>
    rw [step_sckFall rfl, step_sckFall rfl]
    obtain ⟨_, _, _, _, _, _, select, _, _, _⟩ := s
    cases select <;> rfl
  | setDo v => rw [step_setDo rfl, step_setDo rfl]; rfl
  | setAdc v => rw [step_setAdc rfl, step_setAdc rfl]; rfl
  | cfgWord w =>
    rw [step_cfgWord rfl, step_cfgWord rfl]
    obtain ⟨_, _, le, _, _, _, _, _, _, _⟩ := s
    cases le <;> rfl

/-- A script is played the same whatever the list held before. -/
theorem play_setStimulus (es fs : List Stimulus) (s : State) : play es (s.setStimulus fs) = play es s := rfl

/-- Playing one script after another. -/
theorem play_append (es fs : List Stimulus) (s : State) :
    play (es ++ fs) s =
      match play es s with
      | .next t => play fs t
      | .fault r => .fault r
      | .refused r => .refused r := by
  induction es generalizing s with
  | nil => rfl
  | cons e es ih =>
    rw [List.cons_append, play_cons, play_cons, step_rest e (es ++ fs) es s]
    cases step (s.setStimulus (e :: es)) with
    | next t => exact ih t
    | fault r => rfl
    | refused r => rfl

end Sys2Proof.Machine
end

