-- ==== Sys2Proof/Tests/Slice0.lean ====
section
/-! SUPPORT. Small tests. Expected results come from spec/: the encodings of `30_encoding.md` R70, R76 and R77, the worked
examples of R90 to R97 and R121 to R124, and the vectors of `95_test_vectors.md` (named in each comment). Then, for each
statement of Certificates/Slice0/Obligations.lean that has hypotheses, a concrete state and operands that meet them. -/

namespace Sys2Proof.Tests

open Sys2Proof.Machine

/-- A state as `95_test_vectors.md` writes it: `state / i / di / sr / serial_out / le / select`. -/
def mk (f : FsmState) (i : Counter) (di sr : Word) (so le sel : Bool) : State :=
  { State.reset with state := f, i := i, di := di, sr := sr, serialOut := so, le := le, select := sel }

/-- The next state, if there is one. -/
def after : Host.Outcome State Fault Refusal → Option State
  | .next t => some t
  | .fault _ => none
  | .refused _ => none

/-- The refusal, if it is one. -/
def refusal : Host.Outcome State Fault Refusal → Option Refusal
  | .next _ => none
  | .fault _ => none
  | .refused r => some r

/-- One statement, through fetch, decode and exec. -/
def event (e : Stimulus) (s : State) : Option State := after (step (s.setStimulus [e]))

/-- What the decoder says, for comparing. -/
def decoded (c : CodeWord) : Option Instr :=
  match decode c with
  | .ok i => some i
  | .error _ => none

/-- Why the decoder rejects, for comparing. -/
def rejected (c : CodeWord) : Option Reject :=
  match decode c with
  | .ok _ => none
  | .error r => some r

/-! ### The parameters have the values of `00_scope.md` R7 -/

theorem test_parameters : Config.wordWidth = 16 ∧ Config.loopWidth = 10 ∧ Config.counterWidth = 10 ∧
    Config.adcLineCount = 2 ∧ Config.convertReload = 29 ∧ Config.readoutReload = 32 := by decide

/-! ### Checks refuse an ill-formed term (`30_encoding.md` R78, `42_clock_domains.md` R153, R162) -/

theorem test_wf_no_event : CodeWord.wf (.ev 0b10100000#8 false) = false := by decide
theorem test_wf_select_active : CodeWord.wf (.ev 0b00110000#8 false) = false := by decide
theorem test_wf_select_inactive : CodeWord.wf (.ev 0b10001000#8 false) = false := by decide
theorem test_wf_no_state : CodeWord.wf (.ev 0b00000111#8 false) = false := by decide
theorem test_wf_any_control_word : CodeWord.wf (.cw 0xFFFF#16) = true := by decide
theorem test_wf_select_twice : selectAlternates false [.selAssert, .selAssert] = false := by decide
theorem test_wf_deselect_twice : selectAlternates true [.selDeassert, .tick, .selDeassert] = false := by decide
theorem test_wf_word_in_frame : selectAlternates false [.selAssert, .cfgWord 0#16] = false := by decide
theorem test_wf_two_rises : edgesAlternate false [.sckRise true, .sckRise true] = false := by decide
theorem test_wf_two_falls : edgesAlternate true [.sckFall, .tick, .sckFall] = false := by decide
theorem test_wf_select_while_high : mode0 false [.sckRise true, .selAssert] = false := by decide
theorem test_wf_frame : scriptWf false false (Stimulus.xfer16 0x02FF#16) = true := by decide

/-! ### Each row's word, written out bit by bit: EVT, SEL, LE, ST, Z (`30_encoding.md` R76, R77; Program 4) -/

theorem test_decode_cfgword : decodeTableWord 16 0b0000001011111111 = some (.cfgword 0x02FF#16) := by decide
theorem test_decode_tickCount : decoded (.ev 0b00001100#8 false) = some .tickCount := by decide
theorem test_decode_tickDelayExit : decoded (.ev 0b00001001#8 false) = some .tickDelayExit := by decide
theorem test_decode_tickConvertExit : decoded (.ev 0b00001011#8 false) = some .tickConvertExit := by decide
theorem test_decode_tickReadoutExit : decoded (.ev 0b00010101#8 false) = some .tickReadoutExit := by decide
theorem test_decode_selAssert : decoded (.ev 0b00101101#8 false) = some .selAssert := by decide
theorem test_decode_sckRiseSeed : decoded (.ev 0b01011101#8 true) = some (.sckRiseSeed true) := by decide
theorem test_decode_sckRiseShift : decoded (.ev 0b01010000#8 true) = some (.sckRiseShift true) := by decide
theorem test_decode_sckRiseIdle : decoded (.ev 0b01001000#8 true) = some .sckRiseIdle := by decide
theorem test_decode_sckFallOut : decoded (.ev 0b01110101#8 false) = some .sckFallOut := by decide
theorem test_decode_sckFallIdle : decoded (.ev 0b01101000#8 false) = some .sckFallIdle := by decide
theorem test_decode_selDeassertLatch : decoded (.ev 0b10010000#8 false) = some .selDeassertLatch := by decide
theorem test_decode_selDeassertNolatch : decoded (.ev 0b10011000#8 false) = some .selDeassertNolatch := by decide
theorem test_reject_no_event : rejected (.ev 0b11100000#8 false) = some .noSuchEvent := by decide
theorem test_reject_select_active : rejected (.ev 0b00111000#8 false) = some .selectAlreadyActive := by decide
theorem test_reject_select_inactive : rejected (.ev 0b10001000#8 false) = some .selectAlreadyInactive := by decide
theorem test_reject_no_state : rejected (.ev 0b00000111#8 false) = some .noSuchState := by decide
theorem test_table_other_width : decodeTableWord 12 0 = none := by decide

/-! ### One event each: the vectors V3 and V10 to V24 -/

/-- V10. -/
theorem test_selAssert : event .selAssert (mk .delay 0 0x02FF 0x02FF false true false) =
    some (mk .delay 0 0x02FF 0x02FF false true true) := by decide
/-- V11. -/
theorem test_seed : event (.sckRise false) ((mk .delay 0 0x1234 0xBEEF true true true).setDoIn 0xA5C3#16) =
    some ((mk .delay 0 0x1234 0x4B86 true false true).setDoIn 0xA5C3#16) := by decide
/-- V11b: `do[15]` is dropped, the old `sr` discarded. -/
theorem test_seed_drops_top : event (.sckRise false) ((mk .delay 0 0x1234 0xFFFF false true true).setDoIn 0x8000#16) =
    some ((mk .delay 0 0x1234 0x0000 false false true).setDoIn 0x8000#16) := by decide
/-- V12. -/
theorem test_shift : event (.sckRise true) (mk .delay 0 0x1234 0x4B86 false false true) =
    some (mk .delay 0 0x1234 0x970D false false true) := by decide
/-- V12a: the top bit is shifted out and lost. -/
theorem test_shift_drops_top : event (.sckRise false) (mk .delay 0 0x1234 0x8000 false false true) =
    some (mk .delay 0 0x1234 0x0000 false false true) := by decide
/-- V13. -/
theorem test_rise_idle : event (.sckRise true) ((mk .delay 0 0x1234 0x00F0 true true false).setDoIn 0xFFFF#16) =
    some ((mk .delay 0 0x1234 0x00F0 true true false).setDoIn 0xFFFF#16) := by decide
/-- V14a. -/
theorem test_fall_out : event .sckFall (mk .delay 0 0x1234 0x970D false false true) =
    some (mk .delay 0 0x1234 0x970D true false true) := by decide
/-- V14b: before any rising edge the stale top bit is copied, `le` stays 1. -/
theorem test_fall_out_stale : event .sckFall (mk .delay 0 0x1111 0x8000 false true true) =
    some (mk .delay 0 0x1111 0x8000 true true true) := by decide
/-- V15. -/
theorem test_fall_idle : event .sckFall (mk .delay 0 0x1234 0x8000 false true false) =
    some (mk .delay 0 0x1234 0x8000 false true false) := by decide
/-- V16. -/
theorem test_latch : event .selDeassert (mk .delay 0 0x1234 0x02FF false false true) =
    some (mk .delay 0 0x02FF 0x02FF false true false) := by decide
/-- V17. -/
theorem test_nolatch : event .selDeassert (mk .delay 0 0x1234 0x5555 false true true) =
    some (mk .delay 0 0x1234 0x5555 false true false) := by decide
/-- V21d. -/
theorem test_count : event .tick (mk .delay 1023 0 0 false true false) =
    some (mk .delay 1022 0 0 false true false) := by decide
/-- V21a: at 1 the state is kept for one tick more. -/
theorem test_count_to_zero : event .tick (mk .delay 1 0 0 false true false) =
    some (mk .delay 0 0 0 false true false) := by decide
/-- V22. -/
theorem test_delay_exit : event .tick (mk .delay 0 0 0 false true false) =
    some (mk .convert 29 0 0 false true false) := by decide
/-- V23. -/
theorem test_convert_exit : event .tick (mk .convert 0 0 0 false true false) =
    some (mk .readout 32 0 0 false true false) := by decide
/-- V24. -/
theorem test_readout_exit : event .tick (mk .readout 0 0x02FF 0 false true false) =
    some (mk .delay 767 0x02FF 0 false true false) := by decide
/-- V24d: bit 10 is reserved. -/
theorem test_readout_exit_reserved : event .tick (mk .readout 0 0x0400 0 false true false) =
    some (mk .delay 0 0x0400 0 false true false) := by decide
/-- V2a, V18: the ControlWord 0x02FF. -/
theorem test_cfgword : event (.cfgWord 0x02FF#16) ((mk .delay 0 0x1234 0xBEEF false true false).setDoIn 0xA5C3#16) =
    some ((mk .delay 0 0x02FF 0x02FF false true false).setDoIn 0xA5C3#16) := by decide
/-- V18c: the top bit of the word is what the next frame shows first. -/
theorem test_cfgword_top : event (.cfgWord 0x8000#16) (mk .delay 0 0 0 false true false) =
    some (mk .delay 0 0x8000 0x8000 true true false) := by decide
/-- V21b, V21c: the outputs of READOUT. -/
theorem test_outputs_odd : outputs (mk .readout 31 0 0 false true false) = ⟨false, false, true, false, true, 0⟩ := by decide
theorem test_outputs_even : outputs (mk .readout 32 0 0 false true false) = ⟨false, false, false, false, false, 0⟩ := by decide
/-- R78 (b): no such event. -/
theorem test_select_twice : refusal (step ((mk .delay 0 0 0 false true true).setStimulus [.selAssert])) =
    some (.noSuchOperation .selectAlreadyActive) := by decide

/-! ### A table word placed after reset runs next -/

theorem test_place_seed : (after (step (State.reset.withFetchWord 8 0x58))).map State.le = some false := by decide
theorem test_place_latch : (after (step (State.reset.withFetchWord 8 0x90))).map State.select = some false := by decide
theorem test_place_readout_exit :
    (after (step ((mk .convert 7 0x0209 0 false true false).withFetchWord 8 0x05))).map State.i = some 521#10 := by decide
theorem test_place_control_word : (after (step (State.reset.withFetchWord 16 0x5AA5))).map State.di = some 0x5AA5#16 := by
  decide

/-! ### Witnesses: concrete states and operands that meet a statement's hypotheses, a clause at a time -/

/-- A selected state in a frame with one clock behind it. -/
def inFrame : State := mk .readout 0 0x0005 0x0009 false false true

theorem witness_CfgwordEqualsItsFramePlayed : State.reset.select = false := by decide
theorem witness_SelDeassertLatchStoresSr : Instr.tickCount ≠ .selDeassertLatch ∧ (∀ w, Instr.tickCount ≠ .cfgword w) ∧
    exec .tickCount inFrame = .next (countDown inFrame) := ⟨by decide, fun _ h => (by cases h), rfl⟩
theorem witness_TickCountDecrements : (mk .delay 1 0 0 false true false).i ≠ 0#10 ∧
    exec .tickCount State.reset = .next (countDown State.reset) := ⟨by decide, rfl⟩
theorem witness_TickDelayExitEntersConvert : exec .tickDelayExit State.reset = .next (enter .convert State.reset) := rfl
theorem witness_TickReadoutExitLoadsLoopMax : exec .tickConvertExit State.reset = .next (enter .readout State.reset) := rfl
theorem witness_TickReloadsAtZeroElseCounts :
    (inFrame.setStimulus [.tick]).stimulus = [.tick] ∧ inFrame.i = 0#10 ∧ inFrame.state = .readout ∧
    (mk .delay 0 0 0 false true false).i = 0#10 ∧ (mk .convert 0 0 0 false true false).i = 0#10 ∧
    (mk .delay 1 0 0 false true false).i ≠ 0#10 := by decide
theorem witness_EncodeOfDecodeInItsContext :
    (decode (.ev 0x5D#8 true) = .ok (.sckRiseSeed true) ∧ ∃ c, Instr.sckRiseSeed true = .sckRiseSeed c ∨
      Instr.sckRiseSeed true = .sckRiseShift c) ∧
    (decode (.ev 0x57#8 true) = .ok (.sckRiseShift true) ∧ ∃ c, Instr.sckRiseShift true = .sckRiseSeed c ∨
      Instr.sckRiseShift true = .sckRiseShift c) ∧
    (decode (.ev 0x0C#8 true) = .ok .tickCount ∧ ∀ c, Instr.tickCount ≠ .sckRiseSeed c ∧ Instr.tickCount ≠ .sckRiseShift c) :=
  ⟨⟨rfl, true, .inl rfl⟩, ⟨rfl, true, .inr rfl⟩, rfl, by decide⟩
theorem witness_OswMatchesOneRowOrNone : Osw.wf 0x58#8 = true ∧ Osw.wf 0xE0#8 = false ∧
    decode (.ev 0x5D#8 true) = .ok (.sckRiseSeed true) ∧ (∀ v, Instr.sckRiseSeed false ≠ .cfgword v) ∧
    0x5D#8 &&& (Instr.sckRiseSeed false).maskBits = (Instr.sckRiseSeed false).matchBits :=
  ⟨by decide, by decide, rfl, fun _ h => (by cases h), by decide⟩
theorem witness_StepRunsTheDecodedInstruction :
    (State.reset.fetch = some (.ev 0x09#8 false) ∧ decode (.ev 0x09#8 false) = .ok .tickDelayExit) ∧
    ((inFrame.setStimulus [.selAssert]).fetch = some (.ev 0x35#8 false) ∧
      decode (.ev 0x35#8 false) = .error .selectAlreadyActive) ∧
    (inFrame.setStimulus [.setDo 5#16]).fetch = none := ⟨⟨rfl, rfl⟩, ⟨rfl, rfl⟩, rfl⟩
theorem witness_EventSelectsOperationByState : State.reset.select = false ∧ inFrame.select = true := by decide
theorem witness_EveryOperationAnswersANextState : State.reset.noEvent = false := by decide
theorem witness_SelectToItsOwnLevelIsRefused : inFrame.select = true ∧ State.reset.select = false := by decide
theorem witness_PlacedWordRunsNext : decodeTableWord 8 0x9F = some .selDeassertNolatch ∧
    decodeTableWord 8 0x06 = some .tickCount ∧ decodeTableWord 16 0xFFFF = some (.cfgword 0xFFFF#16) := by decide
theorem witness_StepKeepsTheInvariant : State.reset.Inv ∧ (mk .convert 29 0 0 false false true).Inv ∧
    (∃ t, step State.reset = .next t) := ⟨by decide, by decide, _, rfl⟩
theorem witness_OnlyTheLatchPulseWritesDi :
    (∃ t, step (inFrame.setStimulus [.selDeassert]) = .next t ∧ t.di ≠ inFrame.di) ∧
    (∀ w, (inFrame.setStimulus [.selDeassert]).nextStimulus ≠ .cfgWord w) ∧
    (∃ t, step (State.reset.setStimulus [.cfgWord 3#16]) = .next t ∧ t.di ≠ State.reset.di) :=
  ⟨⟨_, rfl, by decide⟩, fun _ h => (by cases h), _, rfl, by decide⟩
theorem witness_LeIsTheEdgeDetector : (State.reset.select = false → State.reset.le = true) ∧
    (∃ t, step (State.reset.setStimulus [.sckRise true]) = .next t) ∧
    (∀ w, (State.reset.setStimulus [.sckRise true]).nextStimulus ≠ .cfgWord w) ∧
    (inFrame.select = false → inFrame.le = true) ∧ (∃ t, step (inFrame.setStimulus [.selDeassert]) = .next t) :=
  ⟨by decide, ⟨_, rfl⟩, fun _ h => (by cases h), by decide, _, rfl⟩
theorem witness_RegistersHaveOneOwner :
    ((∃ t, step (inFrame.setStimulus [.tick]) = .next t) ∧ (inFrame.setStimulus [.tick]).nextStimulus = .tick) ∧
    (∃ t, step (inFrame.setStimulus [.sckFall]) = .next t) ∧ (inFrame.setStimulus [.sckFall]).nextStimulus ≠ .tick :=
  ⟨⟨⟨_, rfl⟩, rfl⟩, ⟨_, rfl⟩, by decide⟩
theorem witness_TickCommutesWithChannelEvents : Stimulus.isChannel (.sckRise true) = true ∧
    (mk .convert 7 0 0 false true true).state ≠ .readout ∧ inFrame.state = .readout ∧ inFrame.i = 0#10 ∧
    ¬ ((Stimulus.sckFall = .selDeassert ∧ inFrame.select = true ∧ inFrame.le = false) ∨ ∃ w, Stimulus.sckFall = .cfgWord w) :=
  ⟨rfl, by decide, rfl, rfl, fun h => by rcases h with ⟨h, _⟩ | ⟨_, h⟩ <;> cases h⟩
theorem witness_LatchAgainstReadoutExitLoadsNewOrOld :
    inFrame.state = .readout ∧ inFrame.i = 0#10 ∧ inFrame.select = true ∧ inFrame.le = false := by decide
theorem witness_DeselectWithSampleEdgePresetsLe : inFrame.select = true := by decide
theorem witness_DeselectedSrIsInert : State.reset.select = false ∧
    ∀ e ∈ [Stimulus.sckRise true, .sckFall, .tick, .setDo 1#16],
      e ≠ .selAssert ∧ e ≠ .selDeassert ∧ ∀ w, e ≠ .cfgWord w :=
  ⟨by decide, by simp⟩
theorem witness_SerialInIgnoredWhileDeselected : State.reset.select = false := by decide
theorem witness_DoIsReadOnlyAtTheSeed :
    (∃ t, step (inFrame.setStimulus [.sckRise true]) = .next t) ∧
    (∀ b, ¬ ((inFrame.setStimulus [.sckRise true]).nextStimulus = .sckRise b ∧
      (inFrame.setStimulus [.sckRise true]).select = true ∧ (inFrame.setStimulus [.sckRise true]).le = true)) ∧
    (∀ w, (inFrame.setStimulus [.sckRise true]).nextStimulus ≠ .cfgWord w) ∧
    (∀ w, (inFrame.setStimulus [.sckRise true]).nextStimulus ≠ .setDo w) :=
  ⟨⟨_, rfl⟩, fun _ h => absurd h.2.2 (by decide), fun _ h => (by cases h), fun _ h => (by cases h)⟩
theorem witness_TopDoBitReachesNoRegister :
    (∀ k, k < 15 → (0x8000#16).getLsbD k = State.reset.doIn.getLsbD k) ∧
    ∃ t, play [.selAssert, .sckRise true, .sckFall] State.reset = .next t :=
  ⟨by decide, _, rfl⟩
theorem witness_AdcLinesReachOnlyHostSdo : ∃ t, play [.tick, .setAdc 2#2] State.reset = .next t := ⟨_, rfl⟩
theorem witness_ReservedBitsDoNotReachTheFsm : (0xFC00#16).extractLsb' 0 10 = State.reset.di.extractLsb' 0 10 := by decide

/-- The dwell's clauses, at their boundaries: no tick, the last tick inside, and the exit from each state. -/
theorem witness_DwellIsReloadPlusOneTicks :
    (∃ t, play [] inFrame = .next t ∧ ticksIn [] ≤ inFrame.i.toNat) ∧
    (∃ t, play [.tick, .sckFall, .tick] (mk .convert 2 0 0 false true true) = .next t ∧
      ticksIn [.tick, .sckFall, .tick] ≤ (mk .convert 2 0 0 false true true).i.toNat) ∧
    (∃ t, play ([.sckFall] ++ [.tick]) inFrame = .next t ∧ ticksIn [.sckFall] = inFrame.i.toNat) ∧
    (∃ t, play ([] ++ [.tick]) State.reset = .next t ∧ ticksIn [] = State.reset.i.toNat) ∧
    (∃ t, play ([.tick] ++ [.tick]) (mk .convert 1 0 0 false true true) = .next t ∧
      ticksIn [.tick] = (mk .convert 1 0 0 false true true).i.toNat) :=
  ⟨⟨_, rfl, by decide⟩, ⟨_, rfl, by decide⟩, ⟨_, rfl, by decide⟩, ⟨_, rfl, by decide⟩, _, rfl, by decide⟩

/-- The cycle's clauses from DELAY with `i` = 0, at 0, 1, 30, 31 and 63 ticks and at the entry of the next DELAY. -/
theorem witness_CycleLengthIsLoopMaxPlus64 : State.reset.state = .delay ∧ State.reset.i.toNat = 0 ∧
    (∃ t, play (Stimulus.ticks 0) State.reset = .next t ∧ ticksIn (Stimulus.ticks 0) ≤ 0) ∧
    (∃ t, play (Stimulus.ticks 1) State.reset = .next t ∧ ticksIn (Stimulus.ticks 1) = 1) ∧
    (∃ t, play (Stimulus.ticks 30) State.reset = .next t ∧ ticksIn (Stimulus.ticks 30) = 30) ∧
    (∃ t, play (Stimulus.ticks 31) State.reset = .next t ∧ ticksIn (Stimulus.ticks 31) = 31) ∧
    (∃ t, play (Stimulus.ticks 63) State.reset = .next t ∧ ticksIn (Stimulus.ticks 63) = 63) ∧
    (∃ t, play (Stimulus.ticks 63 ++ [.tick]) State.reset = .next t) :=
  ⟨rfl, rfl, ⟨_, rfl, by decide⟩, ⟨_, rfl, by decide⟩, ⟨_, rfl, by decide⟩, ⟨_, rfl, by decide⟩, ⟨_, rfl, by decide⟩, _, rfl⟩

theorem witness_ReadoutWaveformHasSixteenPulses : (mk .readout 32 0 0 false true false).state = .readout ∧
    (mk .readout 32 0 0 false true false).i = 32#10 ∧
    (∃ t, play (Stimulus.ticks 32) (mk .readout 32 0 0 false true false) = .next t) ∧
    ticksIn (Stimulus.ticks 32) ≤ 32 := ⟨rfl, rfl, ⟨_, rfl⟩, by decide⟩
theorem witness_ConversionHoldBeforeFirstClock : (mk .convert 29 0 0 false true false).state = .convert ∧
    (mk .convert 29 0 0 false true false).i = 29#10 ∧
    (∃ t, play (Stimulus.ticks 30) (mk .convert 29 0 0 false true false) = .next t) ∧ ticksIn (Stimulus.ticks 30) ≤ 31 ∧
    (∃ t, play (Stimulus.ticks 31) (mk .convert 29 0 0 false true false) = .next t) ∧ ticksIn (Stimulus.ticks 31) = 31 :=
  ⟨rfl, rfl, ⟨_, rfl⟩, by decide, ⟨_, rfl⟩, by decide⟩
theorem witness_SixteenClockFrameDeliversTheWord : State.reset.select = false ∧
    channelPart (.tick :: .setDo 5#16 :: Stimulus.xfer16 0x8001#16) = Stimulus.xfer16 0x8001#16 := by decide
theorem witness_FrameOfAnyLengthLatchesLastBits : State.reset.select = false ∧ State.reset.le = true ∧ [true] ≠ [] ∧
    withoutTicks [.selAssert, .sckRise true, .tick, .sckFall, .selDeassert] = Stimulus.frame [true] := by decide
theorem witness_EmptyFrameChangesNoSrRegister : State.reset.select = false ∧ State.reset.le = true ∧
    withoutTicks [.selAssert, .tick, .selDeassert] = Stimulus.empty := by decide
theorem witness_SerialOutSendsDoThenTheHostsBits : State.reset.select = false ∧ State.reset.le = true ∧
    withoutTicks (.tick :: .selAssert :: Stimulus.clocks (List.replicate 15 true)) =
      .selAssert :: Stimulus.clocks (List.replicate 15 true) ∧ (List.replicate 15 true).length ≤ 15 ∧
    withoutTicks (.tick :: .selAssert :: Stimulus.clocks (List.replicate 16 true)) =
      .selAssert :: Stimulus.clocks (List.replicate 16 true) ∧ 15 < (List.replicate 16 true).length := by decide
theorem witness_FrameSetsTheNextPeriod : (mk .readout 0 0x0005 0 false true false).select = false ∧
    channelPart (Stimulus.xfer16 0x0003#16) = Stimulus.xfer16 0x0003#16 ∧ channelPart [.setDo 1#16] = [] ∧
    (∃ u, play (Stimulus.xfer16 0x0003#16 ++ [.setDo 1#16]) (mk .readout 0 0x0005 0 false true false) = .next u ∧
      u.state = .readout ∧ u.i = 0#10) := ⟨by decide, by decide, by decide, _, rfl, by decide, by decide⟩
/-- The second clause at a single change, the third at each of the four double changes. -/
theorem witness_SampledPinsGiveWellFormedEvents :
    [Stimulus.selAssert] ∈ eventOrders ⟨false, false, true⟩ ⟨true, false, true⟩ ∧
    ∀ a b : Bool, (Pins.mk a b false).select ≠ (Pins.mk (!a) (!b) true).select ∧
      (Pins.mk a b false).sck ≠ (Pins.mk (!a) (!b) true).sck := by decide

end Sys2Proof.Tests
end

section
/-! PROOFS for `00_scope.md`: the conversion reload as a ceiling (R8), and the step in terms of fetch and decode (R11). -/

namespace Sys2Proof.Config

/-- `T_CONV` is a ceiling for whatever hold and clock rate stand in this namespace (`00_scope.md` R8): the quotient rounded up is
at most `n` exactly when `n` thousands reach the product. -/
theorem convertReload_le_iff (n : Nat) : convertReload ≤ n ↔ conversionNs * clockMHz ≤ n * 1000 := by
  unfold convertReload
  rw [Nat.div_le_iff_le_mul_add_pred (by decide)]
  omega

end Sys2Proof.Config

namespace Sys2Proof.Machine

/-- Settles O16: the ceiling's characterisation, beside the values of R7. -/
theorem convertReloadIsTheCeiling : Obligations.ConvertReloadIsTheCeiling := by
  unfold Obligations.ConvertReloadIsTheCeiling
  have reload_is_least (n : Nat) := (Config.convertReload_le_iff n).symm
  have reloads_fit : Config.convertReload < 2 ^ Config.counterWidth ∧ Config.readoutReload < 2 ^ Config.counterWidth := by
    decide
  exact ⟨rfl, rfl, rfl, reload_is_least, reloads_fit⟩

/-- A word of no row stops the step with the decoder's own reason (`30_encoding.md` R78). -/
theorem step_of_reject {s : State} {c : CodeWord} {r : Reject} (hf : s.fetch = some c) (hd : decode c = .error r) :
    step s = .refused (.noSuchOperation r) := by
  simp only [step, hf, hd]

/-- A statement that makes no code word only sets its input (`30_encoding.md` R80). -/
theorem step_of_no_event {s : State} (hf : s.fetch = none) : step s = .next s.applyInput.advance := by
  simp only [step, hf]

/-- Setting a free input leaves the list of statements as it is. -/
@[simp] theorem State.applyInput_stimulus (s : State) : s.applyInput.stimulus = s.stimulus := by
  unfold State.applyInput
  cases s.nextStimulus <;> rfl

/-- Taking a statement off the list changes no other field. -/
theorem State.advance_eq (s : State) : s.advance = { s with stimulus := s.stimulus.tail } := rfl

/-- Settles O21: what the step does with a decoded word, a rejected word and no word. -/
theorem stepRunsTheDecodedInstruction : Obligations.StepRunsTheDecodedInstruction := by
  unfold Obligations.StepRunsTheDecodedInstruction
  refine ⟨fun s c i hf hd => ?decoded, fun s c r hf hd => step_of_reject hf hd, fun s hf => ?input⟩
  case decoded => rw [step_of_fetch hf hd, State.advance_eq]
  case input => rw [step_of_no_event hf, State.advance_eq, State.applyInput_stimulus]

end Sys2Proof.Machine
end

section
/-! PROOFS for `10_state.md`: the power-on state (R34), the invariant (R26, R137), the ownership of the registers (R33) and
the FSM's view of `di` (R23, R72). What a step can do is said once, by `StepEffect` and `stepEffect_of_step`; the invariant
and the ownership are read off it. -/

namespace Sys2Proof.Machine

/-! ### The reloads -/

/-- The reload on entering a state is within that state's bound (`41_fsm_operations.md` R138). DELAY's is so because the
counter is as wide as `loop_max` (`00_scope.md` R7, log entry 7). -/
theorem reloadOf_le_counterBound (di : Word) (f : FsmState) : (reloadOf di f).toNat ≤ counterBound f := by
  cases f with
  | delay =>
    have : (delayReload di).toNat < 2 ^ Config.counterWidth := (delayReload di).isLt
    exact Nat.le_pred_of_lt this
  | convert => exact (by decide : convertReload.toNat ≤ counterBound .convert)
  | readout => exact (by decide : readoutReload.toNat ≤ counterBound .readout)

/-- A reload reads nothing of `di` but its low ten bits (`10_state.md` R23; `30_encoding.md` R72). -/
theorem reloadOf_congr {v w : Word} (h : v.extractLsb' 0 10 = w.extractLsb' 0 10) (f : FsmState) :
    reloadOf v f = reloadOf w f := by
  cases f with
  | delay => exact (delayReload_eq v).trans (h.trans (delayReload_eq w).symm)
  | convert => rfl
  | readout => rfl

/-! ### What a step that answers a next state has done -/

/-- What the statement `e`, met in `s`, may answer: the event's operation as `30_encoding.md` R77 selects it by `select` and
`i`, or the input that a statement of R80 sets. A statement that is no event (R78 (b)) has no effect here. -/
inductive StepEffect (s : State) : Stimulus → State → Prop
  | tickCount (hi : s.i ≠ 0#10) : StepEffect s .tick (countDown s.advance)
  | tickExit (hi : s.i = 0#10) : StepEffect s .tick (enter (nextState s.state) s.advance)
  | selAssert (hs : s.select = false) : StepEffect s .selAssert (selectOn s.advance)
  | selDeassert (hs : s.select = true) : StepEffect s .selDeassert (selectOff s.advance)
  | sckRise (b : Bool) (hs : s.select = true) : StepEffect s (.sckRise b) (sampleEdge b s.advance)
  | sckRiseIdle (b : Bool) (hs : s.select = false) : StepEffect s (.sckRise b) s.advance
  | sckFall (hs : s.select = true) : StepEffect s .sckFall (outEdge s.advance)
  | sckFallIdle (hs : s.select = false) : StepEffect s .sckFall s.advance
  | setDo (v : Word) : StepEffect s (.setDo v) (s.setDoIn v).advance
  | setAdc (v : AdcLines) : StepEffect s (.setAdc v) (s.setAdcSdo v).advance
  | cfgWord (w : Word) : StepEffect s (.cfgWord w) (sendControlWord w s.advance)

/-- The inversion of the step: a next state is an effect of the next statement. -/
theorem stepEffect_of_step {s t : State} (h : step s = .next t) : StepEffect s s.nextStimulus t := by
  cases he : s.nextStimulus with
  | tick =>
    rw [step_tick he] at h
    cases h
    split
    next hz => exact .tickExit ((counterZero_iff s.i).mp hz)
    next hz => exact .tickCount (mt (counterZero_iff s.i).mpr hz)
  | selAssert =>
    rw [step_selAssert he] at h
    split at h <;> cases h
    next hs => exact .selAssert (Bool.eq_false_of_not_eq_true hs)
  | selDeassert =>
    rw [step_selDeassert he] at h
    split at h <;> cases h
    next hs => exact .selDeassert hs
  | sckRise b =>
    rw [step_sckRise he] at h
    cases h
    split
    next hs => exact .sckRise b hs
    next hs => exact .sckRiseIdle b (Bool.eq_false_of_not_eq_true hs)
  | sckFall =>
    rw [step_sckFall he] at h
    cases h
    split
    next hs => exact .sckFall hs
    next hs => exact .sckFallIdle (Bool.eq_false_of_not_eq_true hs)
  | setDo v =>
    rw [step_setDo he] at h
    cases h
    exact .setDo v
  | setAdc v =>
    rw [step_setAdc he] at h
    cases h
    exact .setAdc v
  | cfgWord w =>
    rw [step_cfgWord he] at h
    cases h
    exact .cfgWord w

namespace StepEffect

/-- A tick keeps every SR register and the level of `select` (`10_state.md` R33). -/
theorem tick_keeps_sr {s t : State} (h : StepEffect s .tick t) :
    t.sr = s.sr ∧ t.serialOut = s.serialOut ∧ t.le = s.le ∧ t.di = s.di ∧ t.select = s.select := by
  cases h with
  | tickCount => exact ⟨rfl, rfl, rfl, rfl, rfl⟩
  | tickExit => exact ⟨rfl, rfl, rfl, rfl, rfl⟩

/-- A statement other than a tick keeps the FSM's two registers (`10_state.md` R33). -/
theorem keeps_fsm {s t : State} {e : Stimulus} (h : StepEffect s e t) (he : e ≠ .tick) :
    t.state = s.state ∧ t.i = s.i := by
  cases h with
  | tickCount => exact absurd rfl he
  | tickExit => exact absurd rfl he
  | selAssert => exact ⟨rfl, rfl⟩
  | selDeassert => rw [selectOff_eq]; exact ⟨rfl, rfl⟩
  | sckRise => rw [sampleEdge_eq]; exact ⟨rfl, rfl⟩
  | sckRiseIdle => exact ⟨rfl, rfl⟩
  | sckFall => exact ⟨rfl, rfl⟩
  | sckFallIdle => exact ⟨rfl, rfl⟩
  | setDo => exact ⟨rfl, rfl⟩
  | setAdc => exact ⟨rfl, rfl⟩
  | cfgWord w =>
    obtain ⟨sr, so, di, hw⟩ := sendControlWord_frame w s.advance
    rw [hw]
    exact ⟨rfl, rfl⟩

/-- The preset of `le` holds after every statement that finds it (`10_state.md` R26): `le` is cleared only
with `select` active and staying so, and whatever makes `select` inactive sets `le`. -/
theorem keeps_preset {s t : State} {e : Stimulus} (h : StepEffect s e t) (hp : s.select = false → s.le = true) :
    t.select = false → t.le = true := by
  cases h with
  | tickCount => exact hp
  | tickExit => exact hp
  | selAssert => exact fun ht => Bool.noConfusion ht
  | selDeassert => rw [selectOff_eq]; exact fun _ => rfl
  | sckRise b hs =>
    rw [sampleEdge_eq]
    exact fun ht => Bool.noConfusion (hs.symm.trans ht)
  | sckRiseIdle => exact hp
  | sckFall => exact hp
  | sckFallIdle => exact hp
  | setDo => exact hp
  | setAdc => exact hp
  | cfgWord w =>
    obtain ⟨sr, so, di, hw⟩ := sendControlWord_frame w s.advance
    rw [hw]
    exact fun _ => rfl

/-- The counter stays within its state's bound: an exit enters the next state at its reload, a count goes down without a
borrow (`41_fsm_operations.md` R120, R137), and no other statement writes `state` or `i`. -/
theorem keeps_counterBound {s t : State} {e : Stimulus} (h : StepEffect s e t)
    (hb : s.i.toNat ≤ counterBound s.state) : t.i.toNat ≤ counterBound t.state := by
  by_cases he : e = .tick
  case pos =>
    subst he
    cases h with
    | tickCount hi =>
      have counted : (countDown s.advance).i.toNat = s.i.toNat - 1 := countDown_toNat s.advance hi
      rw [counted]
      exact (Nat.sub_le _ _).trans hb
    | tickExit => exact reloadOf_le_counterBound s.di (nextState s.state)
  case neg =>
    obtain ⟨hstate, hi⟩ := h.keeps_fsm he
    rw [hstate, hi]
    exact hb

end StepEffect

/-! ### Ticks against a write of `di` -/

/-- Entering a state commutes with a write of `di` that keeps the low ten bits. -/
theorem enter_setDi {s : State} {v : Word} (h : v.extractLsb' 0 10 = s.di.extractLsb' 0 10) (f : FsmState) :
    enter f (s.setDi v) = (enter f s).setDi v := by
  simp only [enter_eq, State.setDi, reloadOf_congr h]

/-- A tick commutes with a write of `di` that keeps the low ten bits. -/
theorem step_tick_setDi {s t : State} {v : Word} (he : s.nextStimulus = .tick)
    (hv : v.extractLsb' 0 10 = s.di.extractLsb' 0 10) (h : step s = .next t) : step (s.setDi v) = .next (t.setDi v) := by
  have he' : (s.setDi v).nextStimulus = .tick := he
  have advance_setDi : (s.setDi v).advance = s.advance.setDi v := rfl
  rw [step_tick he] at h
  cases h
  rw [step_tick he', advance_setDi, State.setDi_i, State.setDi_state]
  split
  next => rw [enter_setDi (s := s.advance) hv]
  next => rfl

/-- A script whose first statement has a next state goes on from there. -/
theorem play_cons_of_step {e : Stimulus} {es : List Stimulus} {s t : State}
    (h : step (s.setStimulus (e :: es)) = .next t) : play (e :: es) s = play es t := by
  rw [play_cons, h]

/-! ### The statements -/

/-- Settles O29: the preset and the counter's bound, each kept by every effect of a step. -/
theorem stepKeepsTheInvariant : Obligations.StepKeepsTheInvariant := by
  unfold Obligations.StepKeepsTheInvariant
  rintro s t ⟨preset, bound⟩ h
  have effect := stepEffect_of_step h
  exact ⟨effect.keeps_preset preset, effect.keeps_counterBound bound⟩

/-- Settles O32: each half is a frame of the step's inversion. -/
theorem registersHaveOneOwner : Obligations.RegistersHaveOneOwner := by
  unfold Obligations.RegistersHaveOneOwner
  intro s t h
  have effect := stepEffect_of_step h
  exact ⟨fun he => (he ▸ effect).tick_keeps_sr, effect.keeps_fsm⟩

/-- Settles O41, by induction on the number of ticks: each tick commutes with the write and leaves `di` as it was. -/
theorem reservedBitsDoNotReachTheFsm : Obligations.ReservedBitsDoNotReachTheFsm := by
  unfold Obligations.ReservedBitsDoNotReachTheFsm
  intro n
  induction n with
  | zero => exact fun s v _ => ⟨s.setStimulus [], rfl, rfl⟩
  | succ n ih =>
    intro s v hv
    obtain ⟨u, hu⟩ : ∃ u, step (s.setStimulus (.tick :: Stimulus.ticks n)) = .next u := ⟨_, step_tick rfl⟩
    have hu' : step ((s.setDi v).setStimulus (.tick :: Stimulus.ticks n)) = .next (u.setDi v) :=
      step_tick_setDi (s := s.setStimulus _) rfl hv hu
    obtain ⟨-, -, -, di_kept, -⟩ := (stepEffect_of_step hu).tick_keeps_sr
    obtain ⟨t, ht, ht'⟩ := ih u v (hv.trans (congrArg _ di_kept.symm))
    exact ⟨t, (play_cons_of_step hu).trans ht, (play_cons_of_step hu').trans ht'⟩

/-- Settles O27: each field as R34's table gives it. -/
theorem powerOnState : Obligations.PowerOnState := ⟨rfl, rfl, rfl, rfl, rfl, rfl, rfl, rfl, rfl, rfl⟩

/-- Settles O28: `le` is preset, and a counter of 0 is within every bound. -/
theorem invariantAtPowerOn : Obligations.InvariantAtPowerOn := ⟨fun _ => rfl, Nat.zero_le _⟩

end Sys2Proof.Machine
end

section
/-! PROOFS for `20_memory.md` section 3: a frame of any length (R54, R98), with ticks anywhere in it, and a latch at a
READOUT exit (R63). The ticks of a script are taken out once, by `play_of_play_withoutTicks`; the frame that is left is
played clock by clock, and the word it shifts in is read as a number. -/

namespace Sys2Proof.Machine

/-! ### A script against the same script without its ticks -/

/-- `state <- f` and `i <- v`: the two registers of the tick domain (`10_state.md` R33). -/
def State.setFsm (s : State) (f : FsmState) (v : Counter) : State := (s.setState f).setI v

/-- A tick writes the FSM's two registers and nothing else. -/
theorem step_tick_setFsm {s : State} (h : s.nextStimulus = .tick) :
    ∃ f v, step s = .next (s.advance.setFsm f v) := by
  rw [step_tick h]
  split
  next => exact ⟨_, _, rfl⟩
  next => exact ⟨s.state, _, rfl⟩

/-- The clocks of a whole frame neither read nor write the FSM. -/
theorem clockBits_setFsm (n : Nat) (w : Word) (s : State) (f : FsmState) (v : Counter) :
    clockBits n w (s.setFsm f v) = (clockBits n w s).setFsm f v := by
  induction n generalizing s with
  | zero => rfl
  | succ n ih =>
    have clock_setFsm (b : Bool) : clockBit b (s.setFsm f v) = (clockBit b s).setFsm f v := by
      rw [clockBit_eq, clockBit_eq]
      rfl
    unfold clockBits
    rw [clock_setFsm, ih]

/-- Deselecting neither reads nor writes the FSM. -/
theorem selectOff_setFsm (s : State) (f : FsmState) (v : Counter) :
    selectOff (s.setFsm f v) = (selectOff s).setFsm f v := by
  rw [selectOff_eq, selectOff_eq]
  rfl

/-- A whole frame neither reads nor writes the FSM. -/
theorem sendControlWord_setFsm (w : Word) (s : State) (f : FsmState) (v : Counter) :
    sendControlWord w (s.setFsm f v) = (sendControlWord w s).setFsm f v := by
  have select_setFsm : selectOn (s.setFsm f v) = (selectOn s).setFsm f v := rfl
  unfold sendControlWord
  rw [select_setFsm, clockBits_setFsm, selectOff_setFsm]

/-- A statement other than a tick does the same whatever the FSM's registers hold (`42_clock_domains.md` R160). -/
theorem step_setFsm {s t : State} (he : s.nextStimulus ≠ .tick) (h : step s = .next t) (f : FsmState) (v : Counter) :
    step (s.setFsm f v) = .next (t.setFsm f v) := by
  have effect := stepEffect_of_step h
  generalize hs : s.nextStimulus = e at he effect
  have hs' : (s.setFsm f v).nextStimulus = e := hs
  have advance_setFsm : (s.setFsm f v).advance = s.advance.setFsm f v := rfl
  have select_setFsm : (s.setFsm f v).select = s.select := rfl
  cases effect with
  | tickCount => exact absurd rfl he
  | tickExit => exact absurd rfl he
  | selAssert hsel => rw [step_selAssert hs', select_setFsm, hsel]; rfl
  | selDeassert hsel =>
    rw [step_selDeassert hs', select_setFsm, if_pos hsel, advance_setFsm, selectOff_setFsm]
  | sckRise b hsel =>
    rw [step_sckRise hs', select_setFsm, if_pos hsel, sampleEdge_eq, sampleEdge_eq]
    rfl
  | sckRiseIdle b hsel => rw [step_sckRise hs', select_setFsm, hsel]; rfl
  | sckFall hsel => rw [step_sckFall hs', select_setFsm, hsel]; rfl
  | sckFallIdle hsel => rw [step_sckFall hs', select_setFsm, hsel]; rfl
  | setDo w => rw [step_setDo hs']; rfl
  | setAdc w => rw [step_setAdc hs']; rfl
  | cfgWord w => rw [step_cfgWord hs', advance_setFsm, sendControlWord_setFsm]

/-- A script that plays after a first statement has played that statement first. -/
theorem play_cons_next {e : Stimulus} {es : List Stimulus} {s t : State} (h : play (e :: es) s = .next t) :
    ∃ u, step (s.setStimulus (e :: es)) = .next u ∧ play es u = .next t := by
  rw [play_cons] at h
  split at h
  next u hu => exact ⟨u, hu, h⟩
  next => cases h
  next => cases h

/-- Ticks anywhere in a script, and the registers of the FSM at its start, change only the registers of the FSM at its end
(`42_clock_domains.md` R160): where the script without its ticks plays, the script plays, and to the same state but for
`state` and `i`. -/
theorem play_of_play_withoutTicks {es : List Stimulus} {s t : State} (h : play (withoutTicks es) s = .next t)
    (f : FsmState) (v : Counter) : ∃ f' v', play es (s.setFsm f v) = .next (t.setFsm f' v') := by
  induction es generalizing s f v with
  | nil => cases h; exact ⟨f, v, rfl⟩
  | cons e es ih =>
    by_cases he : e = .tick
    case pos =>
      subst he
      obtain ⟨f', v', ticked⟩ := step_tick_setFsm (s := (s.setFsm f v).setStimulus (.tick :: es)) rfl
      rw [play_cons_of_step ticked]
      exact ih h f' v'
    case neg =>
      have kept : withoutTicks (e :: es) = e :: withoutTicks es := by simp [withoutTicks, he]
      rw [kept] at h
      obtain ⟨u, first, rest⟩ := play_cons_next h
      have first' : step (s.setStimulus (e :: es)) = .next (u.setStimulus es) := by
        rw [step_rest e es (withoutTicks es), first]
      have first_setFsm : step ((s.setFsm f v).setStimulus (e :: es)) = .next ((u.setFsm f v).setStimulus es) :=
        step_setFsm (s := s.setStimulus (e :: es)) he first' f v
      rw [play_cons_of_step first_setFsm, play_setStimulus]
      exact ih rest f v

/-! ### The clocks of a frame -/

/-- A clock in an open frame is its rising and its falling edge, each one step. -/
theorem play_clk_append {s : State} (hs : s.select = true) (b : Bool) (es : List Stimulus) :
    play (Stimulus.clk b ++ es) s = play es (clockBit b s) := by
  have rise : step (s.setStimulus (.sckRise b :: .sckFall :: es)) =
      .next ((sampleEdge b s).setStimulus (.sckFall :: es)) := by
    rw [step_sckRise rfl, State.setStimulus_select, if_pos hs, sampleEdge_eq, sampleEdge_eq]
    rfl
  have still_open : (sampleEdge b s).select = true := by rw [sampleEdge_eq]; exact hs
  have fall : step ((sampleEdge b s).setStimulus (.sckFall :: es)) = .next ((clockBit b s).setStimulus es) := by
    rw [step_sckFall rfl, State.setStimulus_select, if_pos still_open]
    rfl
  calc play (.sckRise b :: .sckFall :: es) s
      = play (.sckFall :: es) (sampleEdge b s) := by rw [play_cons_of_step rise, play_setStimulus]
    _ = play es (clockBit b s) := by rw [play_cons_of_step fall, play_setStimulus]

/-- The state that the bits of a frame leave, the last of them shown on `serial_out`: `sr` = `v` and `le` cleared. -/
def State.clockedTo (s : State) (v : Word) : State := ((s.setSr v).setLe false).setSerialOut (msb v)

/-- The clocks of an open frame, at least one: the first seeds or shifts as `le` says, the others shift, and the last
falling edge shows the top bit (`40_sr_operations.md` R98, R99). -/
theorem play_clocks_cons {s : State} (hs : s.select = true) (b : Bool) (bs : List Bool) :
    play (Stimulus.clocks (b :: bs)) s =
      .next ((s.clockedTo ((b :: bs).foldl shiftedIn (if s.le then s.doIn else s.sr))).setStimulus []) := by
  induction bs generalizing s b with
  | nil =>
    rw [Stimulus.clocks, play_clk_append hs, clockBit_eq]
    rfl
  | cons c cs ih =>
    rw [Stimulus.clocks, play_clk_append hs, clockBit_eq]
    exact ih (s := s.clockedTo (shiftedIn (if s.le then s.doIn else s.sr) b)) hs c

/-- A frame of at least one clock: it latches the word its clocks leave in `sr`, which starts from `do`
(`40_sr_operations.md` R91, R96). -/
theorem play_frame_cons {s : State} (hs : s.select = false) (hle : s.le = true) (b : Bool) (bs : List Bool) :
    play (Stimulus.frame (b :: bs)) s =
      .next ((latchOff ((selectOn s).clockedTo ((b :: bs).foldl shiftedIn s.doIn))).setStimulus []) := by
  have opened : step (s.setStimulus (Stimulus.frame (b :: bs))) =
      .next ((selectOn s).setStimulus (Stimulus.clocks (b :: bs) ++ [.selDeassert])) := by
    rw [step_selAssert rfl, State.setStimulus_select, hs]
    rfl
  have clocked := play_clocks_cons (s := selectOn s) rfl b bs
  have seeded : (if (selectOn s).le then (selectOn s).doIn else (selectOn s).sr) = s.doIn := if_pos hle
  rw [seeded] at clocked
  calc play (Stimulus.frame (b :: bs)) s
      = play (Stimulus.clocks (b :: bs) ++ [.selDeassert]) (selectOn s) :=
        (play_cons_of_step opened).trans (play_setStimulus _ _ _)
    _ = play [.selDeassert] ((selectOn s).clockedTo ((b :: bs).foldl shiftedIn s.doIn)) := by
        rw [play_append, clocked]; rfl
    _ = _ := by rw [play_cons_of_step (step_selDeassert rfl)]; rfl

/-! ### The word a frame shifts in -/

/-- Shifting a bit into a number cut to the register's width doubles the number and adds the bit. -/
theorem shiftedIn_ofNat (a : Nat) (b : Bool) : shiftedIn (BitVec.ofNat 16 a) b = BitVec.ofNat 16 (2 * a + b.toNat) := by
  apply BitVec.eq_of_toNat_eq
  rw [shiftedIn_toNat]
  change (2 * (a % 2 ^ 16) + b.toNat) % 2 ^ 16 = (2 * a + b.toNat) % 2 ^ 16
  omega

/-- A shift drops the top bit (`40_sr_operations.md` R91). -/
theorem shiftedIn_eq_ofNat (v : Word) (b : Bool) :
    shiftedIn v b = BitVec.ofNat 16 (2 * (v.toNat % 2 ^ 15) + b.toNat) := by
  apply BitVec.eq_of_toNat_eq
  rw [shiftedIn_toNat]
  change (2 * v.toNat + b.toNat) % 2 ^ 16 = (2 * (v.toNat % 2 ^ 15) + b.toNat) % 2 ^ 16
  omega

/-- Reading the bits of a wire on from the number `a` puts `a` above them. -/
theorem foldl_wire (bs : List Bool) (a : Nat) :
    bs.foldl (fun n b => 2 * n + b.toNat) a = a * 2 ^ bs.length + wireValue bs := by
  induction bs generalizing a with
  | nil => simp [wireValue]
  | cons b bs ih =>
    rw [wireValue, List.foldl_cons, List.foldl_cons, ih, ih, List.length_cons]
    ring

/-- Bits shifted in one after another stand below what stood there, cut to the register's width. -/
theorem foldl_shiftedIn_ofNat (bs : List Bool) (a : Nat) :
    bs.foldl shiftedIn (BitVec.ofNat 16 a) = BitVec.ofNat 16 (a * 2 ^ bs.length + wireValue bs) := by
  rw [← foldl_wire]
  induction bs generalizing a with
  | nil => rfl
  | cons b bs ih => rw [List.foldl_cons, List.foldl_cons, shiftedIn_ofNat, ih]

/-- At least one bit shifted in: `v[14:0]` followed by the bits, the low 16 of them (`40_sr_operations.md` R98). -/
theorem foldl_shiftedIn_cons (v : Word) (b : Bool) (bs : List Bool) :
    (b :: bs).foldl shiftedIn v =
      BitVec.ofNat 16 (v.toNat % 2 ^ 15 * 2 ^ (b :: bs).length + wireValue (b :: bs)) := by
  rw [← foldl_wire, List.foldl_cons, List.foldl_cons, shiftedIn_eq_ofNat, foldl_shiftedIn_ofNat, foldl_wire]

/-! ### A latch and a READOUT exit -/

/-- `select` going inactive after a clock latches (`40_sr_operations.md` R96). -/
theorem step_latch {s : State} (h : s.nextStimulus = .selDeassert) (hsel : s.select = true) (hle : s.le = false) :
    step s = .next (latchOff s.advance) := by
  have hle' : ¬ s.advance.le = true := by rw [Bool.not_eq_true]; exact hle
  rw [step_selDeassert h, if_pos hsel, selectOff, if_neg hle']

/-- Entering DELAY loads `loop_max` as `di` holds it (`41_fsm_operations.md` R124, R138). -/
theorem enter_delay_eq (s : State) : enter .delay s = { s with state := .delay, i := s.di.extractLsb' 0 10 } := by
  rw [enter_eq, reloadOf, delayReload_eq]

/-- A tick in READOUT with `i` = 0 enters DELAY (`41_fsm_operations.md` R124). -/
theorem step_readoutExit {s : State} (h : s.nextStimulus = .tick) (hstate : s.state = .readout) (hi : s.i = 0#10) :
    step s = .next (enter .delay s.advance) := by
  rw [step_tick h, if_pos ((counterZero_iff s.i).mpr hi), hstate, nextState]

/-! ### The statements -/

/-- Settles O50: the frame without its ticks is played by `play_frame_cons`, and the ticks change only the FSM's registers. -/
theorem frameOfAnyLengthLatchesLastBits : Obligations.FrameOfAnyLengthLatchesLastBits := by
  unfold Obligations.FrameOfAnyLengthLatchesLastBits
  intro es bs s hs hle hbs hes
  obtain ⟨b, bs, rfl⟩ := List.exists_cons_of_ne_nil hbs
  have frame_played := play_frame_cons hs hle b bs
  rw [← hes] at frame_played
  obtain ⟨f, v, played⟩ := play_of_play_withoutTicks frame_played s.state s.i
  exact ⟨_, played, foldl_shiftedIn_cons s.doIn b bs, rfl, rfl, rfl, rfl⟩

/-- Settles O34: the exit reloads from `di` as the latch has left it, or as it stood before the latch. -/
theorem latchAgainstReadoutExitLoadsNewOrOld : Obligations.LatchAgainstReadoutExitLoadsNewOrOld := by
  unfold Obligations.LatchAgainstReadoutExitLoadsNewOrOld
  intro s hstate hi hsel hle
  constructor
  case left =>
    have latched : step (s.setStimulus [.selDeassert, .tick]) = .next ((latchOff s).setStimulus [.tick]) :=
      step_latch rfl hsel hle
    have exited : step ((latchOff s).setStimulus [.tick]) = .next ((enter .delay (latchOff s)).setStimulus []) :=
      step_readoutExit rfl hstate hi
    rw [play_cons_of_step latched, play_setStimulus, play_cons_of_step exited, enter_delay_eq]
    rfl
  case right =>
    have exited : step (s.setStimulus [.tick, .selDeassert]) = .next ((enter .delay s).setStimulus [.selDeassert]) :=
      step_readoutExit rfl hstate hi
    have latched : step ((enter .delay s).setStimulus [.selDeassert]) =
        .next ((latchOff (enter .delay s)).setStimulus []) := step_latch rfl hsel hle
    rw [play_cons_of_step exited, play_setStimulus, play_cons_of_step latched, enter_delay_eq]
    rfl

end Sys2Proof.Machine
end

section
/-! PROOFS for `30_encoding.md` section 4: the table of R77 as a search for the row that a word shows. The decoder, the encoder
and R78's cases are read off it by `decode_ev_ok_iff`, and by fields `decode_ev_ok_iff_selectedBy`. -/

namespace Sys2Proof

/-! ### The table as a search -/

/-- The twelve rows of format EV in the table's order, the sampling edges with the operand `b` (`30_encoding.md` R77). -/
def Instr.operations (b : Bool) : List Instr :=
  [.tickCount, .tickDelayExit, .tickConvertExit, .tickReadoutExit, .selAssert, .sckRiseSeed b, .sckRiseShift b,
    .sckRiseIdle, .sckFallOut, .sckFallIdle, .selDeassertLatch, .selDeassertNolatch]

/-- The word shows the row's match under the row's mask (`30_encoding.md` R77). -/
abbrev Instr.shownBy (w : Osw) (i : Instr) : Prop := w &&& i.maskBits = i.matchBits

/-- A search that answers at the first hit is a chain of tests. -/
theorem find?_cons_elim {α β : Type} (p : α → Prop) [DecidablePred p] (x : α) (xs : List α) (d : β) (f : α → β) :
    (((x :: xs).find? (fun a => decide (p a))).elim d f) =
      if p x then f x else (xs.find? (fun a => decide (p a))).elim d f := by
  rw [List.find?_cons]
  by_cases h : p x <;> simp [h]

/-- The decoder is a search of the table for the first row that the word shows (`30_encoding.md` R77). -/
theorem decodeOsw_eq_find (w : Osw) (b : Bool) :
    decodeOsw w b = ((Instr.operations b).find? (fun i => decide (i.shownBy w))).elim (.error (rejection w)) .ok := by
  unfold Instr.operations
  simp only [find?_cons_elim]
  rfl

/-- Two rows that one word shows agree in the bits that both compare. -/
theorem shared_bits_agree {w : Osw} {i j : Instr} (hi : i.shownBy w) (hj : j.shownBy w) :
    i.matchBits &&& j.maskBits = j.matchBits &&& i.maskBits := by
  rw [← hi, ← hj, BitVec.and_assoc, BitVec.and_assoc, BitVec.and_comm i.maskBits]

/-- Two different rows of the table differ in a bit that both compare, so no word shows both (`30_encoding.md` R77). -/
theorem same_row_of_shared_bits_agree : ∀ b c, ∀ i ∈ Instr.operations b, ∀ j ∈ Instr.operations c,
    i.matchBits &&& j.maskBits = j.matchBits &&& i.maskBits →
      j.maskBits = i.maskBits ∧ j.matchBits = i.matchBits := by
  decide

/-- With the operand given, a row's mask and match name its operation. -/
theorem eq_of_same_row : ∀ b, ∀ i ∈ Instr.operations b, ∀ j ∈ Instr.operations b,
    j.maskBits = i.maskBits ∧ j.matchBits = i.matchBits → j = i := by
  decide

/-- A word decodes to the operations whose row it shows: that the search stops at the first one loses none, since there is no
other. -/
theorem decode_ev_ok_iff {w : Osw} {b : Bool} {i : Instr} :
    decode (.ev w b) = .ok i ↔ i ∈ Instr.operations b ∧ i.shownBy w := by
  have found : decode (.ev w b) = _ := decodeOsw_eq_find w b
  rw [found]
  cases h : (Instr.operations b).find? (fun i => decide (i.shownBy w)) with
  | none =>
    have none_shown := List.find?_eq_none.mp h
    constructor
    case mp => exact fun e => nomatch e
    case mpr => exact fun ⟨mem, shown⟩ => absurd (decide_eq_true shown) (none_shown i mem)
  | some j =>
    have j_mem := List.mem_of_find?_eq_some h
    have j_shown : j.shownBy w := of_decide_eq_true (List.find?_some (p := fun i : Instr => decide (i.shownBy w)) h)
    constructor
    case mp => rintro ⟨⟩; exact ⟨j_mem, j_shown⟩
    case mpr =>
      rintro ⟨mem, shown⟩
      have same_row := same_row_of_shared_bits_agree b b i mem j j_mem (shared_bits_agree shown j_shown)
      exact congrArg Except.ok (eq_of_same_row b i mem j j_mem same_row)

/-! ### The fields -/

/-- The five fields make up the word (`30_encoding.md` R76). -/
theorem Osw.ext_fields {w v : Osw} (hevt : w.evt = v.evt) (hsel : w.sel = v.sel) (hle : w.le = v.le)
    (hst : w.st = v.st) (hz : w.z = v.z) : w = v := by
  have evt_bit (n : Nat) (h : n < 3) : w.getLsbD (5 + n) = v.getLsbD (5 + n) := by
    simpa [Osw.evt, h] using congrArg (·.getLsbD n) hevt
  have st_bit (n : Nat) (h : n < 2) : w.getLsbD (1 + n) = v.getLsbD (1 + n) := by
    simpa [Osw.st, h] using congrArg (·.getLsbD n) hst
  apply BitVec.eq_of_getLsbD_eq
  intro k hk
  interval_cases k
  exacts [hz, st_bit 0 (by decide), st_bit 1 (by decide), hle, hsel, evt_bit 0 (by decide), evt_bit 1 (by decide),
    evt_bit 2 (by decide)]

/-- `EVT` of a literal word. -/
@[simp] theorem Osw.evt_ofNat (n : Nat) : Osw.evt (BitVec.ofNat 8 n) = BitVec.ofNat 3 (n / 32) := by
  apply BitVec.eq_of_toNat_eq
  simp [Osw.evt, Nat.shiftRight_eq_div_pow]
  omega

/-- `SEL` of a literal word. -/
@[simp] theorem Osw.sel_ofNat (n : Nat) : Osw.sel (BitVec.ofNat 8 n) = decide (n / 16 % 2 = 1) := by
  simp only [Osw.sel, BitVec.getLsbD_ofNat, Nat.testBit_eq_decide_div_mod_eq, Nat.reduceLT, decide_true, Bool.true_and]

/-- `LE` of a literal word. -/
@[simp] theorem Osw.le_ofNat (n : Nat) : Osw.le (BitVec.ofNat 8 n) = decide (n / 8 % 2 = 1) := by
  simp only [Osw.le, BitVec.getLsbD_ofNat, Nat.testBit_eq_decide_div_mod_eq, Nat.reduceLT, decide_true, Bool.true_and]

/-- `ST` of a literal word. -/
@[simp] theorem Osw.st_ofNat (n : Nat) : Osw.st (BitVec.ofNat 8 n) = BitVec.ofNat 2 (n / 2) := by
  apply BitVec.eq_of_toNat_eq
  simp [Osw.st, Nat.shiftRight_eq_div_pow]
  omega

/-- `Z` of a literal word. -/
@[simp] theorem Osw.z_ofNat (n : Nat) : Osw.z (BitVec.ofNat 8 n) = decide (n % 2 = 1) := by
  simp only [Osw.z, BitVec.getLsbD_ofNat, Nat.testBit_zero, Nat.reduceLT, decide_true, Bool.true_and]

/-- A row is compared field by field. -/
theorem Instr.shownBy_iff_fields (w : Osw) (i : Instr) : i.shownBy w ↔
    w.evt &&& Osw.evt i.maskBits = Osw.evt i.matchBits ∧ (w.sel && Osw.sel i.maskBits) = Osw.sel i.matchBits ∧
    (w.le && Osw.le i.maskBits) = Osw.le i.matchBits ∧ w.st &&& Osw.st i.maskBits = Osw.st i.matchBits ∧
    (w.z && Osw.z i.maskBits) = Osw.z i.matchBits := by
  have evt_and (v : Osw) : w.evt &&& v.evt = Osw.evt (w &&& v) := by simp [Osw.evt, BitVec.extractLsb'_and]
  have sel_and (v : Osw) : (w.sel && v.sel) = Osw.sel (w &&& v) := (BitVec.getLsbD_and).symm
  have le_and (v : Osw) : (w.le && v.le) = Osw.le (w &&& v) := (BitVec.getLsbD_and).symm
  have st_and (v : Osw) : w.st &&& v.st = Osw.st (w &&& v) := by simp [Osw.st, BitVec.extractLsb'_and]
  have z_and (v : Osw) : (w.z && v.z) = Osw.z (w &&& v) := (BitVec.getLsbD_and).symm
  rw [evt_and, sel_and, le_and, st_and, z_and]
  constructor
  case mp => intro h; rw [h]; exact ⟨rfl, rfl, rfl, rfl, rfl⟩
  case mpr => exact fun ⟨hevt, hsel, hle, hst, hz⟩ => Osw.ext_fields hevt hsel hle hst hz

/-- The condition under which an event selects the operation, on the fields of its word; the sampling edges take the level beside
the word (`30_encoding.md` R77, columns EVT and condition). -/
def Instr.selectedBy (w : Osw) (b : Bool) : Instr → Prop
  | .cfgword _ => False
  | .tickCount => w.evt = 0#3 ∧ w.z = false
  | .tickDelayExit => w.evt = 0#3 ∧ w.st = 0#2 ∧ w.z = true
  | .tickConvertExit => w.evt = 0#3 ∧ w.st = 1#2 ∧ w.z = true
  | .tickReadoutExit => w.evt = 0#3 ∧ w.st = 2#2 ∧ w.z = true
  | .selAssert => w.evt = 1#3 ∧ w.sel = false
  | .sckRiseSeed c => b = c ∧ w.evt = 2#3 ∧ w.sel = true ∧ w.le = true
  | .sckRiseShift c => b = c ∧ w.evt = 2#3 ∧ w.sel = true ∧ w.le = false
  | .sckRiseIdle => w.evt = 2#3 ∧ w.sel = false
  | .sckFallOut => w.evt = 3#3 ∧ w.sel = true
  | .sckFallIdle => w.evt = 3#3 ∧ w.sel = false
  | .selDeassertLatch => w.evt = 4#3 ∧ w.sel = true ∧ w.le = false
  | .selDeassertNolatch => w.evt = 4#3 ∧ w.sel = true ∧ w.le = true

/-- The masks and matches of R77 say R77's conditions on the fields: what the decoder reads, operation by operation. -/
theorem decode_ev_ok_iff_selectedBy (w : Osw) (b : Bool) (i : Instr) :
    decode (.ev w b) = .ok i ↔ i.selectedBy w b := by
  rw [decode_ev_ok_iff, Instr.shownBy_iff_fields]
  have evt_compared : w.evt &&& 7#3 = w.evt := BitVec.and_allOnes
  have st_compared : w.st &&& 3#2 = w.st := BitVec.and_allOnes
  cases i <;>
    simp [Instr.operations, Instr.selectedBy, Instr.maskBits, Instr.matchBits, evt_compared, st_compared, eq_comm (b := b)]

/-! ### Encoding -/

/-- The operand `b` that stands beside an instruction's word: 0 but for the two sampling edges (`30_encoding.md` R76). -/
def Instr.operand : Instr → Bool
  | .sckRiseSeed b => b
  | .sckRiseShift b => b
  | _ => false

/-- Every instruction of format EV is the table's row for its operand. -/
theorem Instr.mem_operations_operand {i : Instr} (hi : ∀ w, i ≠ .cfgword w) : i ∈ Instr.operations i.operand := by
  cases i
  case cfgword w => exact absurd rfl (hi w)
  all_goals simp [Instr.operations, Instr.operand]

/-- Format EV: the word, and the operand beside it (`30_encoding.md` R76). -/
theorem encodeIn_eq {i : Instr} (hi : ∀ w, i ≠ .cfgword w) (context : Osw) :
    encodeIn context i = .ev (encodeOsw i context) i.operand := by
  cases i
  case cfgword w => exact absurd rfl (hi w)
  all_goals rfl

/-- Filling a row's free bits leaves the bits it compares. -/
theorem Instr.shownBy_encodeOsw (i : Instr) (context : Osw) : i.shownBy (encodeOsw i context) := by
  have match_under_mask : i.matchBits &&& i.maskBits = i.matchBits := by cases i <;> simp [Instr.matchBits, Instr.maskBits]
  calc (i.matchBits ||| context &&& ~~~i.maskBits) &&& i.maskBits
      = i.matchBits &&& i.maskBits ||| context &&& (~~~i.maskBits &&& i.maskBits) := by
        rw [BitVec.and_or_distrib_right, BitVec.and_assoc]
    _ = i.matchBits := by simp [match_under_mask]

/-- A word that shows a row is that row with the word's own free bits. -/
theorem encodeOsw_of_shownBy {w : Osw} {i : Instr} (h : i.shownBy w) : encodeOsw i w = w := by
  calc i.matchBits ||| w &&& ~~~i.maskBits
      = w &&& (i.maskBits ||| ~~~i.maskBits) := by rw [← h, BitVec.and_or_distrib_left]
    _ = w := by rw [BitVec.or_not_self, BitVec.and_allOnes]

/-- Settles O18: an encoding shows its row in every context, and a ControlWord is encoded as itself. -/
theorem decodeOfEncodeInEveryContext : Obligations.DecodeOfEncodeInEveryContext := by
  unfold Obligations.DecodeOfEncodeInEveryContext
  intro i context
  by_cases hi : ∃ w, i = .cfgword w
  case pos => obtain ⟨w, rfl⟩ := hi; rfl
  case neg =>
    have hi' : ∀ w, i ≠ .cfgword w := fun w e => hi ⟨w, e⟩
    rw [encodeIn_eq hi']
    exact decode_ev_ok_iff.mpr ⟨i.mem_operations_operand hi', i.shownBy_encodeOsw context⟩

/-- A ControlWord is no row of format EV. -/
theorem Instr.ne_cfgword_of_mem_operations {i : Instr} {b : Bool} (h : i ∈ Instr.operations b) (w : Word) :
    i ≠ .cfgword w := by
  rintro rfl
  simp [Instr.operations] at h

/-- Settles O19: the word shows the row it decodes to, and the operand beside it is the one the row carries. -/
theorem encodeOfDecodeInItsContext : Obligations.EncodeOfDecodeInItsContext := by
  unfold Obligations.EncodeOfDecodeInItsContext
  intro w b i h
  obtain ⟨mem, shown⟩ := decode_ev_ok_iff.mp h
  have encoded : encodeIn w i = .ev w i.operand := by
    rw [encodeIn_eq (Instr.ne_cfgword_of_mem_operations mem), encodeOsw_of_shownBy shown]
  rw [encoded]
  constructor
  case left =>
    rintro ⟨c, rfl | rfl⟩
    all_goals
      obtain ⟨rfl, -⟩ := (decode_ev_ok_iff_selectedBy w b _).mp h
      rfl
  case right =>
    intro hi
    cases i
    case sckRiseSeed c => exact absurd rfl (hi c).1
    case sckRiseShift c => exact absurd rfl (hi c).2
    all_goals rfl

/-! ### Words of no row -/

/-- R78's cases (a), (b) and (c), each excluded. -/
theorem Osw.wf_iff (w : Osw) : w.wf = true ↔
    w.evt ≤ 4#3 ∧ ¬ (w.evt = 1#3 ∧ w.sel = true) ∧ ¬ (w.evt = 4#3 ∧ w.sel = false) ∧
    ¬ (w.evt = 0#3 ∧ w.st = 3#2 ∧ w.z = true) := by
  simp [Osw.wf, and_assoc, or_assoc, imp_iff_not_or]

/-- The condition of each row excludes R78's cases. -/
theorem Osw.wf_of_selectedBy {w : Osw} {b : Bool} {i : Instr} (h : i.selectedBy w b) : w.wf = true := by
  rw [Osw.wf_iff]
  cases i <;> simp_all [Instr.selectedBy]

/-- Outside R78's cases every event finds its operation, by the fields that the event's rows compare (`30_encoding.md` R77). -/
theorem Osw.exists_selectedBy_of_wf {w : Osw} (h : w.wf = true) (b : Bool) : ∃ i : Instr, i.selectedBy w b := by
  have events : ∀ e : BitVec 3, e ≤ 4#3 → e = 0#3 ∨ e = 1#3 ∨ e = 2#3 ∨ e = 3#3 ∨ e = 4#3 := by decide
  have states : ∀ c : BitVec 2, c ≠ 3#2 → c = 0#2 ∨ c = 1#2 ∨ c = 2#2 := by decide
  obtain ⟨event, not_active, not_inactive, not_no_state⟩ := (Osw.wf_iff w).mp h
  rcases events w.evt event with hevt | hevt | hevt | hevt | hevt
  case inl =>
    cases hz : w.z
    case false => exact ⟨.tickCount, hevt, hz⟩
    case true =>
      rcases states w.st fun hst => not_no_state ⟨hevt, hst, hz⟩ with hst | hst | hst
      · exact ⟨.tickDelayExit, hevt, hst, hz⟩
      · exact ⟨.tickConvertExit, hevt, hst, hz⟩
      · exact ⟨.tickReadoutExit, hevt, hst, hz⟩
  case inr.inl => exact ⟨.selAssert, hevt, Bool.eq_false_of_not_eq_true fun hsel => not_active ⟨hevt, hsel⟩⟩
  case inr.inr.inl =>
    cases hsel : w.sel
    case false => exact ⟨.sckRiseIdle, hevt, hsel⟩
    case true =>
      cases hle : w.le
      case false => exact ⟨.sckRiseShift b, rfl, hevt, hsel, hle⟩
      case true => exact ⟨.sckRiseSeed b, rfl, hevt, hsel, hle⟩
  case inr.inr.inr.inl =>
    cases hsel : w.sel
    case false => exact ⟨.sckFallIdle, hevt, hsel⟩
    case true => exact ⟨.sckFallOut, hevt, hsel⟩
  case inr.inr.inr.inr =>
    have hsel : w.sel = true := Bool.eq_true_of_not_eq_false fun hsel => not_inactive ⟨hevt, hsel⟩
    cases hle : w.le
    case false => exact ⟨.selDeassertLatch, hevt, hsel, hle⟩
    case true => exact ⟨.selDeassertNolatch, hevt, hsel, hle⟩

/-- Settles O20: the rows' conditions cover what R78 leaves, and two rows that one word shows are the same row. -/
theorem oswMatchesOneRowOrNone : Obligations.OswMatchesOneRowOrNone := by
  unfold Obligations.OswMatchesOneRowOrNone
  constructor
  case left =>
    intro w b
    simp only [decode_ev_ok_iff_selectedBy]
    exact ⟨fun h => Osw.exists_selectedBy_of_wf h b, fun ⟨_, h⟩ => Osw.wf_of_selectedBy h⟩
  case right =>
    intro w b i j h hj j_shown
    obtain ⟨i_mem, i_shown⟩ := decode_ev_ok_iff.mp h
    have j_mem := Instr.mem_operations_operand hj
    exact same_row_of_shared_bits_agree b j.operand i i_mem j j_mem (shared_bits_agree i_shown j_shown)

end Sys2Proof
end

section
/-! PROOFS for `30_encoding.md` sections 2 and 5, the frame of a ControlWord (R73, R81), and for the step's dispatch (R77, R78,
R80). The sixteen clocks of a frame are one write of `sr`, said by `clockBits_wordWidth`. -/

namespace Sys2Proof.Machine

/-! ### The word a frame carries -/

/-- `SHIFT n` sends `n` bits. -/
theorem length_msbFirst (n v : Nat) : (Stimulus.msbFirst n v).length = n := by
  induction n with
  | zero => rfl
  | succ n ih => rw [Stimulus.msbFirst, List.length_cons, ih]

/-- The first bit of a wire weighs most (`20_memory.md` R52). -/
theorem wireValue_cons (b : Bool) (bs : List Bool) : wireValue (b :: bs) = b.toNat * 2 ^ bs.length + wireValue bs := by
  rw [← foldl_wire, wireValue, List.foldl_cons, Nat.mul_zero, Nat.zero_add]

/-- `SHIFT n, v` sends the low `n` bits of `v`, read back as that number (`30_encoding.md` R73, R81). -/
theorem wireValue_msbFirst (n v : Nat) : wireValue (Stimulus.msbFirst n v) = v % 2 ^ n := by
  induction n with
  | zero => rw [pow_zero, Nat.mod_one]; rfl
  | succ n ih =>
    rw [Stimulus.msbFirst, wireValue_cons, length_msbFirst, ih, Nat.toNat_testBit, Nat.mod_pow_succ]
    ring

/-- Sixteen bits shifted in push out all that stood in the register (`40_sr_operations.md` R98). -/
theorem foldl_shiftedIn_msbFirst (v w : Word) : (Stimulus.msbFirst Config.wordWidth w.toNat).foldl shiftedIn v = w := by
  apply BitVec.eq_of_toNat_eq
  have pushed := foldl_shiftedIn_cons v (w.toNat.testBit 15) (Stimulus.msbFirst 15 w.toNat)
  have bits : w.toNat.testBit 15 :: Stimulus.msbFirst 15 w.toNat = Stimulus.msbFirst 16 w.toNat := rfl
  rw [bits, length_msbFirst, wireValue_msbFirst] at pushed
  change ((Stimulus.msbFirst 16 w.toNat).foldl shiftedIn v).toNat = w.toNat
  rw [pushed, BitVec.toNat_ofNat]
  change (v.toNat % 2 ^ 15 * 2 ^ 16 + w.toNat % 2 ^ 16) % 2 ^ 16 = w.toNat
  rw [Nat.mul_add_mod_self_right, Nat.mod_mod, Nat.mod_eq_of_lt w.isLt]

/-- The clocks of a frame, at least one, as one write: the bits follow `do` or `sr` as `le` says at the first. -/
theorem clockBits_succ (n : Nat) (w : Word) (s : State) :
    clockBits (n + 1) w s =
      s.clockedTo ((Stimulus.msbFirst (n + 1) w.toNat).foldl shiftedIn (if s.le then s.doIn else s.sr)) := by
  induction n generalizing s with
  | zero => rw [clockBits, clockBit_eq]; rfl
  | succ n ih =>
    rw [clockBits, ih, clockBit_eq]
    rfl

/-- The sixteen clocks of a ControlWord leave the word in `sr`, whatever stood there and in `do`. -/
theorem clockBits_wordWidth (w : Word) (s : State) : clockBits Config.wordWidth w s = s.clockedTo w :=
  (clockBits_succ 15 w s).trans (congrArg s.clockedTo (foldl_shiftedIn_msbFirst _ w))

/-- A whole frame, written out: the word is in `sr` and `di` and its top bit on `serial_out` (`40_sr_operations.md` R98 to
R100). -/
theorem sendControlWord_eq (w : Word) (s : State) :
    sendControlWord w s =
      { s with sr := w, di := w, serialOut := w.getLsbD 15, le := true, select := false } := by
  rw [sendControlWord, clockBits_wordWidth, selectOff_eq]
  rfl

/-- Settles O9: the frame's own equation. -/
theorem cfgwordDeliversControlWord : Obligations.CfgwordDeliversControlWord := by
  unfold Obligations.CfgwordDeliversControlWord
  intro w s
  rw [exec_cfgword, sendControlWord_eq]

/-! ### The frame played event by event -/

/-- `SHIFT` in an open frame, played, is the shared operation `clockBits`. -/
theorem play_shift {s : State} (hs : s.select = true) (n : Nat) (w : Word) :
    play (Stimulus.shift (n + 1) w.toNat) s = .next ((clockBits (n + 1) w s).setStimulus []) := by
  rw [clockBits_succ]
  exact play_clocks_cons hs (w.toNat.testBit n) (Stimulus.msbFirst n w.toNat)

/-- `XFER16`, played from an inactive `select`, is the shared operation `sendControlWord`. -/
theorem play_xfer16 {s : State} (hs : s.select = false) (w : Word) :
    play (Stimulus.xfer16 w) s = .next ((sendControlWord w s).setStimulus []) := by
  have opened : step (s.setStimulus (Stimulus.xfer16 w)) =
      .next ((selectOn s).setStimulus (Stimulus.shift 16 w.toNat ++ [.selDeassert])) := by
    rw [step_selAssert rfl, State.setStimulus_select, hs]
    rfl
  have clocked : play (Stimulus.shift 16 w.toNat) (selectOn s) = .next (((selectOn s).clockedTo w).setStimulus []) := by
    rw [← clockBits_wordWidth]
    exact play_shift rfl 15 w
  have latched : step (((selectOn s).clockedTo w).setStimulus [.selDeassert]) =
      .next ((sendControlWord w s).setStimulus []) := by
    rw [step_latch rfl rfl rfl, sendControlWord_eq]
    rfl
  calc play (Stimulus.xfer16 w) s
      = play (Stimulus.shift 16 w.toNat ++ [.selDeassert]) (selectOn s) :=
        (play_cons_of_step opened).trans (play_setStimulus _ _ _)
    _ = play [.selDeassert] ((selectOn s).clockedTo w) := by rw [play_append, clocked]; rfl
    _ = .next ((sendControlWord w s).setStimulus []) := (play_cons_of_step latched).trans rfl

/-- Settles O10: the frame played is `sendControlWord`, which neither reads nor writes the stimulus. -/
theorem cfgwordEqualsItsFramePlayed : Obligations.CfgwordEqualsItsFramePlayed := by
  unfold Obligations.CfgwordEqualsItsFramePlayed
  intro w s hs
  rw [play_xfer16 hs, exec_cfgword, sendControlWord_eq, sendControlWord_eq]
  rfl

/-! ### Which operation a step runs -/

/-- Settles O17: each word is evaluated. -/
theorem writtenWordsDecode : Obligations.WrittenWordsDecode := ⟨rfl, rfl, rfl, rfl, rfl, rfl, rfl, rfl⟩

/-- Settles O22: the decoder's reading of each event's word, in the state that the event meets. -/
theorem eventSelectsOperationByState : Obligations.EventSelectsOperationByState := by
  unfold Obligations.EventSelectsOperationByState
  intro s es
  dsimp only
  refine ⟨fun b => ?rise, ?fall, fun hsel => ?assert, fun hsel => ?deassert, ?tick, fun w => step_cfgWord rfl⟩
  case rise =>
    rw [step_of_fetch rfl (decode_sckRise _ b)]
    cases s.select <;> cases s.le <;> rfl
  case fall =>
    rw [step_of_fetch rfl (decode_sckFall _ false)]
    cases s.select <;> rfl
  case assert =>
    exact step_of_fetch rfl ((decode_selAssert _ false).trans (by rw [hsel]; rfl))
  case deassert =>
    have decoded := decode_selDeassert { s with stimulus := .selDeassert :: es } false
    rw [if_pos hsel] at decoded
    rw [step_of_fetch rfl decoded]
    cases s.le <;> rfl
  case tick =>
    rw [step_of_fetch rfl (decode_tick _ false)]
    by_cases hi : s.i = 0#10
    case pos =>
      rw [if_pos hi, if_pos ((counterZero_iff s.i).mpr hi)]
      cases s.state <;> rfl
    case neg =>
      rw [if_neg hi, if_neg (mt (counterZero_iff s.i).mp hi)]
      rfl

/-! ### A placed table word -/

/-- An instruction placed is the one that is fetched and decoded (log entry 4). -/
theorem State.fetch_placeInstr (s : State) (i : Instr) :
    ∃ c, (s.placeInstr i).fetch = some c ∧ decode c = .ok i := by
  cases i with
  | cfgword w => exact ⟨_, rfl, rfl⟩
  | tickCount =>
    have counting : counterZero (s.placeInstr .tickCount).i = false := by
      unfold State.placeInstr
      cases h : counterZero s.i
      · exact h
      · rfl
    refine ⟨_, rfl, (decode_tick _ false).trans ?_⟩
    rw [counting]
    rfl
  | tickDelayExit => exact ⟨_, rfl, decode_tick _ false⟩
  | tickConvertExit => exact ⟨_, rfl, decode_tick _ false⟩
  | tickReadoutExit => exact ⟨_, rfl, decode_tick _ false⟩
  | selAssert => exact ⟨_, rfl, decode_selAssert _ false⟩
  | sckRiseSeed b => exact ⟨_, rfl, decode_sckRise _ b⟩
  | sckRiseShift b => exact ⟨_, rfl, decode_sckRise _ b⟩
  | sckRiseIdle => exact ⟨_, rfl, decode_sckRise _ false⟩
  | sckFallOut => exact ⟨_, rfl, decode_sckFall _ false⟩
  | sckFallIdle => exact ⟨_, rfl, decode_sckFall _ false⟩
  | selDeassertLatch => exact ⟨_, rfl, decode_selDeassert _ false⟩
  | selDeassertNolatch => exact ⟨_, rfl, decode_selDeassert _ false⟩

/-- Placing an instruction puts one statement before the listed ones. -/
theorem State.placeInstr_stimulus_tail (s : State) (i : Instr) : (s.placeInstr i).stimulus.tail = s.stimulus := by
  cases i
  case tickCount =>
    unfold State.placeInstr
    cases counterZero s.i <;> rfl
  all_goals rfl

/-- A table word is placed as the instruction it decodes to. -/
theorem State.withFetchWord_eq {nbits w : Nat} {i : Instr} (h : decodeTableWord nbits w = some i) (s : State) :
    s.withFetchWord nbits w = s.placeInstr i := by
  simp only [State.withFetchWord, State.placeWord, h]

/-- Settles O26: the word's instruction is placed, and what is placed is fetched and decoded. -/
theorem placedWordRunsNext : Obligations.PlacedWordRunsNext := by
  unfold Obligations.PlacedWordRunsNext
  intro s nbits w i h
  rw [State.withFetchWord_eq h]
  obtain ⟨c, fetched, decoded⟩ := s.fetch_placeInstr i
  have left_over := s.placeInstr_stimulus_tail i
  refine ⟨left_over, ?_⟩
  rw [step_of_fetch fetched decoded, State.advance_eq, left_over]

/-- Settles O24: the refusing branch of each of the two steps. -/
theorem selectToItsOwnLevelIsRefused : Obligations.SelectToItsOwnLevelIsRefused := by
  unfold Obligations.SelectToItsOwnLevelIsRefused
  intro s es
  constructor
  case left =>
    intro hsel
    rw [step_selAssert rfl]
    exact if_pos hsel
  case right =>
    intro hsel
    rw [step_selDeassert rfl]
    exact if_neg (ne_true_of_eq_false hsel)

/-- Settles O25: the step over each of the two statements that are no events. -/
theorem inputStatementsSetTheirInput : Obligations.InputStatementsSetTheirInput := by
  unfold Obligations.InputStatementsSetTheirInput
  intro s es
  exact ⟨fun v => step_setDo rfl, fun v => step_setAdc rfl⟩

end Sys2Proof.Machine
end

section
/-! PROOFS for `40_sr_operations.md`. Sections 1 to 4, the operations (R90 to R97): what `exec` answers, and the condition the
decoder reads. Section 5, the rules on what does not reach the SR (R102, R103): the statements that spare it, and `do` away
from the seed; and on frames (R98 to R101): the bits that stand in `sr` after k clocks, and a frame with ticks and input
changes anywhere in it. -/

namespace Sys2Proof

/-- The statement touches no SR register at the level `select`: a tick, a change of a free input or, deselected, a clock edge
(`40_sr_operations.md` R93, R95, R103). -/
def Stimulus.sparesSr (select : Bool) : Stimulus → Bool
  | .tick => true
  | .setDo _ => true
  | .setAdc _ => true
  | .sckRise _ => !select
  | .sckFall => !select
  | .selAssert => false
  | .selDeassert => false
  | .cfgWord _ => false

end Sys2Proof

namespace Sys2Proof.Machine

/-! ### The operations -/

/-- Settles O1: the level alone is written, and the row's condition is read. -/
theorem selAssertRaisesSelectOnly : Obligations.SelAssertRaisesSelectOnly := by
  unfold Obligations.SelAssertRaisesSelectOnly
  have raised (s : State) : exec .selAssert s = .next { s with select := true } := by rw [exec_selAssert, selectOn_eq]
  exact ⟨raised, fun w b => decode_ev_ok_iff_selectedBy w b .selAssert⟩

/-- Settles O2: the word shifted in stands above the sampled bit, and it is `do`. -/
theorem sckRiseSeedLoadsDoAndClearsLe : Obligations.SckRiseSeedLoadsDoAndClearsLe := by
  unfold Obligations.SckRiseSeedLoadsDoAndClearsLe
  constructor
  case left =>
    intro b s
    rw [exec_sckRiseSeed, seedEdge_eq]
    exact ⟨_, rfl, shiftedIn_bit_zero s.doIn b, shiftedIn_bit_succ s.doIn b, rfl⟩
  case right => exact fun w b c => decode_ev_ok_iff_selectedBy w b (.sckRiseSeed c)

/-- Settles O3: the word shifted in stands above the sampled bit, and it is the old `sr`. -/
theorem sckRiseShiftMovesEveryBitUp : Obligations.SckRiseShiftMovesEveryBitUp := by
  unfold Obligations.SckRiseShiftMovesEveryBitUp
  constructor
  case left =>
    intro b s
    rw [exec_sckRiseShift, shiftEdge_eq]
    exact ⟨_, rfl, shiftedIn_bit_zero s.sr b, shiftedIn_bit_succ s.sr b, rfl⟩
  case right => exact fun w b c => decode_ev_ok_iff_selectedBy w b (.sckRiseShift c)

/-- Settles O4: the row's meaning is the state itself, and its condition is read. -/
theorem sckRiseIdleChangesNothing : Obligations.SckRiseIdleChangesNothing := by
  unfold Obligations.SckRiseIdleChangesNothing
  exact ⟨exec_sckRiseIdle, fun w b => decode_ev_ok_iff_selectedBy w b .sckRiseIdle⟩

/-- Settles O5: `serial_out` alone is written, and the row's condition is read. -/
theorem sckFallOutCopiesMsb : Obligations.SckFallOutCopiesMsb := by
  unfold Obligations.SckFallOutCopiesMsb
  have copied (s : State) : exec .sckFallOut s = .next { s with serialOut := s.sr.getLsbD 15 } := by
    rw [exec_sckFallOut, outEdge_eq]
    rfl
  exact ⟨copied, fun w b => decode_ev_ok_iff_selectedBy w b .sckFallOut⟩

/-- Settles O6: the row's meaning is the state itself, and its condition is read. -/
theorem sckFallIdleChangesNothing : Obligations.SckFallIdleChangesNothing := by
  unfold Obligations.SckFallIdleChangesNothing
  exact ⟨exec_sckFallIdle, fun w b => decode_ev_ok_iff_selectedBy w b .sckFallIdle⟩

/-- Of the twelve operations only the latching deselect writes `di` (`40_sr_operations.md` R96; `42_clock_domains.md`
R154). -/
theorem exec_keeps_di {i : Instr} {s t : State} (latch : i ≠ .selDeassertLatch) (word : ∀ w, i ≠ .cfgword w)
    (h : exec i s = .next t) : t.di = s.di := by
  cases i
  case cfgword w => exact absurd rfl (word w)
  case selDeassertLatch => exact absurd rfl latch
  all_goals
    cases h
    rfl

/-- Settles O7: the three writes of the latch, the row's condition, and every other operation's frame. -/
theorem selDeassertLatchStoresSr : Obligations.SelDeassertLatchStoresSr := by
  unfold Obligations.SelDeassertLatchStoresSr
  have latched (s : State) : exec .selDeassertLatch s = .next { s with di := s.sr, le := true, select := false } := by
    rw [exec_selDeassertLatch, latchOff_eq]
  exact ⟨latched, fun w b => decode_ev_ok_iff_selectedBy w b .selDeassertLatch, fun _ _ _ => exec_keeps_di⟩

/-- Settles O8: the level alone is written, the row's condition is read, and a falling edge writes no `le`. -/
theorem selDeassertNolatchKeepsDi : Obligations.SelDeassertNolatchKeepsDi := by
  unfold Obligations.SelDeassertNolatchKeepsDi
  have lowered (s : State) : exec .selDeassertNolatch s = .next { s with select := false } := by
    rw [exec_selDeassertNolatch, noLatchOff_eq]
  have le_kept (s : State) : (outEdge s).le = s.le := by rw [outEdge_eq]
  exact ⟨lowered, fun w b => decode_ev_ok_iff_selectedBy w b .selDeassertNolatch,
    fun s => ⟨outEdge s, exec_sckFallOut s, le_kept s⟩⟩

/-! ### What `le` decides -/

/-- Deselecting with `le` still preset latches nothing (`40_sr_operations.md` R97). -/
theorem selectOff_of_le {s : State} (h : s.le = true) : selectOff s = noLatchOff s := if_pos h

/-- Deselecting with `le` cleared latches (`40_sr_operations.md` R96). -/
theorem selectOff_of_not_le {s : State} (h : s.le = false) : selectOff s = latchOff s := if_neg (ne_true_of_eq_false h)

/-- A rising edge with `le` cleared is no seed (`40_sr_operations.md` R92). -/
theorem sampleEdge_of_not_le (b : Bool) {s : State} (h : s.le = false) : sampleEdge b s = shiftEdge b s :=
  if_neg (ne_true_of_eq_false h)

/-! ### A step is exactly its effect -/

/-- The converse of `stepEffect_of_step`: every effect of the next statement is what the step answers. -/
theorem step_of_stepEffect {s t : State} {e : Stimulus} (he : s.nextStimulus = e) (h : StepEffect s e t) :
    step s = .next t := by
  cases h with
  | tickCount hi => rw [step_tick he, if_neg (mt (counterZero_iff s.i).mp hi)]
  | tickExit hi => rw [step_tick he, if_pos ((counterZero_iff s.i).mpr hi)]
  | selAssert hs => rw [step_selAssert he, if_neg (ne_true_of_eq_false hs)]
  | selDeassert hs => rw [step_selDeassert he, if_pos hs]
  | sckRise b hs => rw [step_sckRise he, if_pos hs]
  | sckRiseIdle b hs => rw [step_sckRise he, if_neg (ne_true_of_eq_false hs)]
  | sckFall hs => rw [step_sckFall he, if_pos hs]
  | sckFallIdle hs => rw [step_sckFall he, if_neg (ne_true_of_eq_false hs)]
  | setDo v => exact step_setDo he
  | setAdc v => exact step_setAdc he
  | cfgWord w => exact step_cfgWord he

/-- A script whose first statement has an effect goes on from there. -/
theorem play_cons_of_stepEffect {e : Stimulus} {es : List Stimulus} {s t : State}
    (h : StepEffect (s.setStimulus (e :: es)) e t) : play (e :: es) s = play es t :=
  play_cons_of_step (step_of_stepEffect rfl h)

/-! ### Statements that spare the SR -/

/-- `t` has the SR registers and the level of `select` that `s` has (`10_state.md` R33). -/
structure SameSr (s t : State) : Prop where
  sr : t.sr = s.sr
  serialOut : t.serialOut = s.serialOut
  le : t.le = s.le
  di : t.di = s.di
  select : t.select = s.select

/-- What is spared twice is spared. -/
theorem SameSr.trans {s t u : State} (h : SameSr s t) (k : SameSr t u) : SameSr s u where
  sr := k.sr.trans h.sr
  serialOut := k.serialOut.trans h.serialOut
  le := k.le.trans h.le
  di := k.di.trans h.di
  select := k.select.trans h.select

/-- The list of statements to come is no part of the SR. -/
theorem SameSr.of_setStimulus (s : State) (es : List Stimulus) : SameSr s (s.setStimulus es) := ⟨rfl, rfl, rfl, rfl, rfl⟩

/-- Whatever is no event of the channel spares the SR, selected or not (`42_clock_domains.md` R160). -/
theorem sparesSr_of_not_isChannel {e : Stimulus} (h : e.isChannel = false) (select : Bool) : e.sparesSr select = true := by
  cases e
  case tick | setDo | setAdc => rfl
  all_goals exact Bool.noConfusion h

/-- Deselected, only a change of `select` and a whole frame do not spare the SR (`40_sr_operations.md` R103). -/
theorem sparesSr_false {e : Stimulus} (rise : e ≠ .selAssert) (fall : e ≠ .selDeassert) (word : ∀ w, e ≠ .cfgWord w) :
    e.sparesSr false = true := by
  cases e
  case selAssert => exact absurd rfl rise
  case selDeassert => exact absurd rfl fall
  case cfgWord w => exact absurd rfl (word w)
  all_goals rfl

/-- A statement that spares the SR has an effect, and it leaves the SR. -/
theorem stepEffect_of_sparesSr {s : State} {e : Stimulus} (h : e.sparesSr s.select = true) :
    ∃ t, StepEffect s e t ∧ SameSr s t := by
  cases e with
  | tick =>
    by_cases hi : s.i = 0#10
    case pos => exact ⟨_, .tickExit hi, rfl, rfl, rfl, rfl, rfl⟩
    case neg => exact ⟨_, .tickCount hi, rfl, rfl, rfl, rfl, rfl⟩
  | setDo v => exact ⟨_, .setDo v, rfl, rfl, rfl, rfl, rfl⟩
  | setAdc v => exact ⟨_, .setAdc v, rfl, rfl, rfl, rfl, rfl⟩
  | sckRise b => exact ⟨_, .sckRiseIdle b ((Bool.not_eq_true' _).mp h), rfl, rfl, rfl, rfl, rfl⟩
  | sckFall => exact ⟨_, .sckFallIdle ((Bool.not_eq_true' _).mp h), rfl, rfl, rfl, rfl, rfl⟩
  | selAssert => exact Bool.noConfusion h
  | selDeassert => exact Bool.noConfusion h
  | cfgWord w => exact Bool.noConfusion h

/-- A script of statements that spare the SR plays, and leaves the SR. -/
theorem play_of_sparesSr {es : List Stimulus} {s : State} (h : ∀ e ∈ es, e.sparesSr s.select = true) :
    ∃ t, play es s = .next t ∧ SameSr s t := by
  induction es generalizing s with
  | nil => exact ⟨_, play_nil s, .of_setStimulus s []⟩
  | cons e es ih =>
    obtain ⟨head, rest⟩ := List.forall_mem_cons.mp h
    obtain ⟨u, effect, spared⟩ := stepEffect_of_sparesSr (s := s.setStimulus (e :: es)) head
    obtain ⟨t, played, same⟩ := ih (s := u) (by rw [spared.select]; exact rest)
    exact ⟨t, (play_cons_of_stepEffect effect).trans played, ((SameSr.of_setStimulus s (e :: es)).trans spared).trans same⟩

/-- Settles O36: deselected, every statement that the script may hold spares the SR. -/
theorem deselectedSrIsInert : Obligations.DeselectedSrIsInert := by
  unfold Obligations.DeselectedSrIsInert
  intro es s hs hes
  have spares : ∀ e ∈ es, e.sparesSr s.select = true := by
    intro e he
    obtain ⟨rise, fall, word⟩ := hes e he
    rw [hs]
    exact sparesSr_false rise fall word
  obtain ⟨t, played, same⟩ := play_of_sparesSr spares
  exact ⟨t, played, same.sr, same.serialOut, same.le, same.di, same.select.trans hs⟩

/-- Settles O37: either level selects SCK_RISE.IDLE, which has no operand. -/
theorem serialInIgnoredWhileDeselected : Obligations.SerialInIgnoredWhileDeselected := by
  unfold Obligations.SerialInIgnoredWhileDeselected
  intro s es b c hs
  have idle (d : Bool) : step (s.setStimulus (.sckRise d :: es)) = .next (s.setStimulus es) :=
    step_of_stepEffect rfl (.sckRiseIdle d hs)
  exact (idle b).trans (idle c).symm

/-! ### `do` away from the seed -/

/-- An effect other than a seed, a whole frame or a change of `do` neither reads nor writes `do`
(`40_sr_operations.md` R102). -/
theorem StepEffect.setDoIn {s t : State} {e : Stimulus} (h : StepEffect s e t)
    (seed : ∀ b, ¬ (e = .sckRise b ∧ s.select = true ∧ s.le = true)) (word : ∀ w, e ≠ .cfgWord w)
    (input : ∀ w, e ≠ .setDo w) (v : Word) : StepEffect (s.setDoIn v) e (t.setDoIn v) := by
  cases h with
  | tickCount hi => exact .tickCount (s := s.setDoIn v) hi
  | tickExit hi => exact .tickExit (s := s.setDoIn v) hi
  | selAssert hs => exact .selAssert (s := s.setDoIn v) hs
  | selDeassert hs =>
    have deselected : (selectOff s.advance).setDoIn v = selectOff (s.setDoIn v).advance := by
      rw [selectOff_eq, selectOff_eq]
      rfl
    rw [deselected]
    exact .selDeassert hs
  | sckRise b hs =>
    have later_edge : s.le = false := Bool.eq_false_of_not_eq_true fun hle => seed b ⟨rfl, hs, hle⟩
    have shifted : (sampleEdge b s.advance).setDoIn v = sampleEdge b (s.setDoIn v).advance := by
      rw [sampleEdge_of_not_le b (s := s.advance) later_edge,
        sampleEdge_of_not_le b (s := (s.setDoIn v).advance) later_edge]
      rfl
    rw [shifted]
    exact .sckRise b hs
  | sckRiseIdle b hs => exact .sckRiseIdle (s := s.setDoIn v) b hs
  | sckFall hs => exact .sckFall (s := s.setDoIn v) hs
  | sckFallIdle hs => exact .sckFallIdle (s := s.setDoIn v) hs
  | setDo w => exact absurd rfl (input w)
  | setAdc a => exact .setAdc (s := s.setDoIn v) a
  | cfgWord w => exact absurd rfl (word w)

/-- Settles O38: the step's effect carries over to the changed `do`. -/
theorem doIsReadOnlyAtTheSeed : Obligations.DoIsReadOnlyAtTheSeed := by
  unfold Obligations.DoIsReadOnlyAtTheSeed
  intro s t v h seed word input
  have effect := (stepEffect_of_step h).setDoIn seed word input v
  exact step_of_stepEffect (s := s.setDoIn v) rfl effect

/-! ### The bits of the word shifted in -/

/-- After `k` bits shifted in, the register's bit `j ≥ k` is the bit `j - k` of what stood there (`40_sr_operations.md`
R98). -/
theorem foldl_shiftedIn_bit_old {bs : List Bool} {j : Nat} (v : Word) (hj : j < 16) (hlen : bs.length ≤ j) :
    (bs.foldl shiftedIn v).getLsbD j = v.getLsbD (j - bs.length) := by
  induction bs using List.reverseRecOn generalizing j with
  | nil => rfl
  | append_singleton bs b ih =>
    rw [List.length_append, List.length_singleton] at hlen ⊢
    obtain ⟨j, rfl⟩ : ∃ n, j = n + 1 := Nat.exists_eq_add_one.mpr (by omega)
    rw [List.foldl_concat, shiftedIn_bit_succ _ b j (by omega), ih (by omega) (by omega), Nat.add_sub_add_right]

/-- After `k` bits shifted in, the register's bit `j < k` is the `j`-th bit from the last, that one being the 0th
(`40_sr_operations.md` R98). -/
theorem foldl_shiftedIn_bit_new {bs : List Bool} {j : Nat} (v : Word) (hj : j < 16) (hlen : j < bs.length) :
    (bs.foldl shiftedIn v).getLsbD j = bs.getD (bs.length - (j + 1)) false := by
  induction bs using List.reverseRecOn generalizing j with
  | nil => exact absurd hlen (Nat.not_lt_zero j)
  | append_singleton bs b ih =>
    rw [List.length_append, List.length_singleton] at hlen ⊢
    rw [List.foldl_concat, Nat.add_sub_add_right]
    cases j with
    | zero => rw [shiftedIn_bit_zero, Nat.sub_zero, List.getD_append_right _ _ _ _ le_rfl, Nat.sub_self]; rfl
    | succ j =>
      rw [shiftedIn_bit_succ _ b j (by omega), ih (by omega) (by omega), List.getD_append _ _ _ _ (by omega)]

/-! ### Frames with ticks anywhere in them -/

/-- `select` going active from inactive, played. -/
theorem play_selAssert_cons {s : State} (hs : s.select = false) (es : List Stimulus) :
    play (.selAssert :: es) s = play es (selectOn s) :=
  have raised : StepEffect (s.setStimulus (.selAssert :: es)) .selAssert ((selectOn s).setStimulus es) := .selAssert hs
  (play_cons_of_stepEffect raised).trans (play_setStimulus es es (selectOn s))

/-- `select` going inactive from active, played. -/
theorem play_selDeassert_cons {s : State} (hs : s.select = true) (es : List Stimulus) :
    play (.selDeassert :: es) s = play es (selectOff s) := by
  rw [play_cons_of_stepEffect (.selDeassert (s := s.setStimulus (.selDeassert :: es)) hs), selectOff_eq, selectOff_eq]
  rfl

/-- Settles O51: with no clock `le` is still preset at the deselect, so nothing is latched; the ticks change only the FSM's
registers. -/
theorem emptyFrameChangesNoSrRegister : Obligations.EmptyFrameChangesNoSrRegister := by
  unfold Obligations.EmptyFrameChangesNoSrRegister
  intro es s hs hle hes
  have closed : play [.selDeassert] (selectOn s) = .next ((noLatchOff (selectOn s)).setStimulus []) := by
    rw [play_selDeassert_cons rfl, selectOff_of_le (s := selectOn s) hle, play_nil]
  have frame_played := (play_selAssert_cons hs [.selDeassert]).trans closed
  rw [← Stimulus.empty, ← hes] at frame_played
  obtain ⟨f, v, played⟩ := play_of_play_withoutTicks frame_played s.state s.i
  exact ⟨_, played, rfl, rfl, rfl, hle, rfl⟩

/-- Settles O52: after the clocks `serial_out` is bit 15 of the word shifted in below `do`, an old bit for up to 15 clocks and
a received one from the 16th on; the ticks change only the FSM's registers. -/
theorem serialOutSendsDoThenTheHostsBits : Obligations.SerialOutSendsDoThenTheHostsBits := by
  unfold Obligations.SerialOutSendsDoThenTheHostsBits
  intro es bs s hs hle hbs hes
  obtain ⟨b, bs, rfl⟩ := List.exists_cons_of_ne_nil hbs
  have clocked := (play_selAssert_cons hs (Stimulus.clocks (b :: bs))).trans (play_clocks_cons rfl b bs)
  have seeded : (if (selectOn s).le then (selectOn s).doIn else (selectOn s).sr) = s.doIn := if_pos hle
  rw [seeded, ← hes] at clocked
  obtain ⟨f, v, played⟩ := play_of_play_withoutTicks clocked s.state s.i
  exact ⟨_, played, foldl_shiftedIn_bit_old s.doIn (by decide), foldl_shiftedIn_bit_new s.doIn (by decide)⟩

/-! ### Frames with ticks and input changes anywhere in them -/

/-- Ticks and input changes alone play, and leave the SR (`42_clock_domains.md` R160). -/
theorem play_of_no_channel_event {es : List Stimulus} (h : ∀ e ∈ es, ¬ e.isChannel = true) (s : State) :
    ∃ t, play es s = .next t ∧ SameSr s t :=
  play_of_sparesSr fun e he => sparesSr_of_not_isChannel (Bool.eq_false_of_not_eq_true (h e he)) s.select

/-- A script up to its first channel event: what comes before the event spares the SR. -/
theorem play_to_channel_event {es fs : List Stimulus} {e : Stimulus} (h : channelPart es = e :: fs) (s : State) :
    ∃ u post, SameSr s u ∧ channelPart post = fs ∧ ∀ t, StepEffect u e t → play es s = play post t := by
  obtain ⟨pre, post, rfl, quiet, -, rest⟩ := List.filter_eq_cons_iff.mp h
  obtain ⟨u, played, same⟩ := play_of_no_channel_event quiet s
  refine ⟨u.setStimulus (e :: post), post, same.trans (.of_setStimulus u (e :: post)), rest, fun t effect => ?_⟩
  rw [play_append, played]
  exact play_cons_of_stepEffect effect

/-- In an open frame, after a clock: the word in `sr`, its top bit on `serial_out`, and `le` cleared. -/
structure State.Shows (s : State) (v : Word) : Prop where
  select : s.select = true
  le : s.le = false
  sr : s.sr = v
  serialOut : s.serialOut = msb v

/-- A clock in an open frame takes its bit in; what it takes it in below is `sr` if it is not the frame's first. -/
theorem play_clk_among_inputs {es fs : List Stimulus} {b : Bool} {s : State} (hs : s.select = true)
    (h : channelPart es = Stimulus.clk b ++ fs) :
    ∃ t post v, play es s = play post t ∧ channelPart post = fs ∧ t.Shows (shiftedIn v b) ∧ (s.le = false → v = s.sr) := by
  have edges : channelPart es = .sckRise b :: .sckFall :: fs := h
  obtain ⟨r, mid, at_rise, mid_part, risen⟩ := play_to_channel_event edges s
  have open_at_rise : r.select = true := at_rise.select.trans hs
  have rise := risen _ (.sckRise b open_at_rise)
  obtain ⟨f, post, at_fall, post_part, fallen⟩ := play_to_channel_event mid_part (sampleEdge b r.advance)
  rw [sampleEdge_eq] at at_fall
  have open_at_fall : f.select = true := at_fall.select.trans open_at_rise
  have fall := fallen _ (.sckFall open_at_fall)
  refine ⟨_, post, if r.le then r.doIn else r.sr, rise.trans fall, post_part, ?shows, ?shifts⟩
  case shows => exact ⟨open_at_fall, at_fall.le, at_fall.sr, congrArg msb at_fall.sr⟩
  case shifts =>
    intro hle
    rw [if_neg (ne_true_of_eq_false (at_rise.le.trans hle)), at_rise.sr]

/-- The further clocks of a frame take their bits in below `sr` (`40_sr_operations.md` R92, R98). -/
theorem play_clocks_among_inputs {es fs : List Stimulus} {bs : List Bool} {s : State} {v : Word} (hs : s.Shows v)
    (h : channelPart es = Stimulus.clocks bs ++ fs) :
    ∃ t post, play es s = play post t ∧ channelPart post = fs ∧ t.Shows (bs.foldl shiftedIn v) := by
  induction bs generalizing es s v with
  | nil => exact ⟨s, es, rfl, h, hs⟩
  | cons b bs ih =>
    rw [Stimulus.clocks, List.append_assoc] at h
    obtain ⟨u, mid, x, first, mid_part, shows, later⟩ := play_clk_among_inputs hs.select h
    rw [later hs.le, hs.sr] at shows
    obtain ⟨t, post, rest, post_part, shown⟩ := ih shows mid_part
    exact ⟨t, post, first.trans rest, post_part, shown⟩

/-- A frame of at least one clock latches its bits, below a word that the first clock has found (`40_sr_operations.md` R98,
R100). -/
theorem play_frame_among_inputs {es : List Stimulus} {b : Bool} {bs : List Bool} {s : State} (hs : s.select = false)
    (h : channelPart es = Stimulus.frame (b :: bs)) :
    ∃ t v, play es s = .next t ∧ t.di = (b :: bs).foldl shiftedIn v ∧ t.sr = t.di ∧ t.serialOut = msb t.di ∧
      t.le = true ∧ t.select = false := by
  have events : channelPart es =
      .selAssert :: (Stimulus.clk b ++ (Stimulus.clocks bs ++ [.selDeassert])) := h
  obtain ⟨a, clocks, at_assert, clocks_part, asserted⟩ := play_to_channel_event events s
  have opened := asserted _ (.selAssert (at_assert.select.trans hs))
  obtain ⟨c, further, v, first, further_part, shows, -⟩ := play_clk_among_inputs (s := selectOn a.advance) rfl clocks_part
  obtain ⟨u, close, clocked, close_part, shown⟩ := play_clocks_among_inputs shows further_part
  obtain ⟨d, after, at_deassert, after_part, deasserted⟩ := play_to_channel_event close_part u
  have closed := deasserted _ (.selDeassert (at_deassert.select.trans shown.select))
  have still_cleared : d.advance.le = false := at_deassert.le.trans shown.le
  rw [selectOff_of_not_le still_cleared] at closed
  obtain ⟨t, ended, same⟩ := play_of_no_channel_event (List.filter_eq_nil_iff.mp after_part) (latchOff d.advance)
  have di_latched : t.di = (b :: bs).foldl shiftedIn v := same.di.trans (at_deassert.sr.trans shown.sr)
  refine ⟨t, v, ?played, di_latched, same.sr.trans same.di.symm, ?msb_shown, same.le, same.select⟩
  case played => rw [opened, first, clocked, closed, ended]
  case msb_shown => rw [di_latched]; exact same.serialOut.trans (at_deassert.serialOut.trans shown.serialOut)

/-- Settles O49: a frame among ticks and input changes latches its bits below some word, and sixteen bits push that word
out. -/
theorem sixteenClockFrameDeliversTheWord : Obligations.SixteenClockFrameDeliversTheWord := by
  unfold Obligations.SixteenClockFrameDeliversTheWord
  intro es w s hs hes
  obtain ⟨t, v, played, di_latched, sr_kept, msb_shown, le_set, deselected⟩ := play_frame_among_inputs hs hes
  have delivered : t.di = w := di_latched.trans (foldl_shiftedIn_msbFirst v w)
  rw [delivered] at sr_kept msb_shown
  exact ⟨t, played, delivered, sr_kept, msb_shown, le_set, deselected⟩

end Sys2Proof.Machine
end

section
/-! PROOFS for `41_fsm_operations.md`. Sections 1 and 2, the four tick operations and the tick rule (R120 to R124); section 3, how
long the FSM stays in a state and a cycle lasts (R125, R132, R133); section 4, the outputs (R126 to R131). A tick either counts or
exits, and nothing else moves the FSM: said once, by `StepEffect.stays_or_exits`, from which the counts of ticks follow by
induction over the script. -/

namespace Sys2Proof.Machine

/-! ### The outputs, each by its rule -/

/-- `adc_cs_n` is high in DELAY only (`41_fsm_operations.md` R126). -/
theorem adcCsN_eq (s : State) : adcCsN s = decide (s.state = .delay) := by
  unfold adcCsN
  cases s.state <;> rfl

/-- `host_cs_n` is low in READOUT only (`41_fsm_operations.md` R128). -/
theorem hostCsN_eq (s : State) : hostCsN s = decide (s.state ≠ .readout) := by
  unfold hostCsN
  cases s.state <;> rfl

/-- `adc_sck` idles low outside READOUT (`41_fsm_operations.md` R127). -/
theorem adcSck_of_not_readout {s : State} (h : s.state ≠ .readout) : adcSck s = false := by
  unfold adcSck
  cases hf : s.state with
  | delay => rfl
  | convert => rfl
  | readout => exact absurd hf h

/-- In READOUT `adc_sck` is bit 0 of the counter (`41_fsm_operations.md` R127). -/
theorem adcSck_of_readout {s : State} (h : s.state = .readout) : adcSck s = s.i.getLsbD 0 := by
  unfold adcSck
  rw [h]

/-- In READOUT `adc_sck` is high exactly where the counter is odd (`41_fsm_operations.md` R127). -/
theorem adcSck_of_readout_odd {s : State} (h : s.state = .readout) : adcSck s = decide (s.i.toNat % 2 = 1) :=
  (adcSck_of_readout h).trans (Nat.testBit_zero s.i.toNat)

/-- Settles O44: the outputs of each state, read off their rules. -/
theorem outputTruthTable : Obligations.OutputTruthTable := by
  unfold Obligations.OutputTruthTable
  intro s
  unfold outputs hostSck hostSdo
  cases h : s.state with
  | delay => rw [adcCsN_eq, hostCsN_eq, adcSck_of_not_readout (by simp [h]), h]; rfl
  | convert => rw [adcCsN_eq, hostCsN_eq, adcSck_of_not_readout (by simp [h]), h]; rfl
  | readout => rw [adcCsN_eq, hostCsN_eq, adcSck_of_readout h, h]; rfl

/-- Settles O45: the host's clock is defined as the ADC's. -/
theorem hostClockMirrorsAdcClock : Obligations.HostClockMirrorsAdcClock := fun _ => rfl

/-! ### The operations -/

/-- The tick operations other than TICK.READOUT_EXIT do not read `di` (`41_fsm_operations.md` R121, R122, R123). -/
theorem exec_tick_setDi {s t : State} {i : Instr} (hi : i = .tickCount ∨ i = .tickDelayExit ∨ i = .tickConvertExit)
    (h : exec i s = .next t) (v : Word) : exec i { s with di := v } = .next { t with di := v } := by
  obtain rfl | rfl | rfl := hi
  all_goals
    cases h
    rfl

/-- A count with `i` ≠ 0 takes one from the counter, without a borrow (`41_fsm_operations.md` R121, R137). -/
theorem countDown_toNat_succ {s : State} (h : s.i ≠ 0#10) : (countDown s).i.toNat + 1 = s.i.toNat := by
  have positive : 0 < s.i.toNat := Nat.pos_of_ne_zero fun e => h (BitVec.eq_of_toNat_eq e)
  rw [countDown_toNat s h, Nat.sub_add_cancel positive]

/-- Settles O11: the counter alone is written, the row's condition is read, and `di` is not. -/
theorem tickCountDecrements : Obligations.TickCountDecrements := by
  unfold Obligations.TickCountDecrements
  refine ⟨fun s hi => ?counted, fun w b => decode_ev_ok_iff_selectedBy w b .tickCount,
    fun s t v h => exec_tick_setDi (.inl rfl) h v⟩
  case counted => exact ⟨countDown s, exec_tickCount s, countDown_toNat_succ hi, countDown_eq s⟩

/-- Settles O12: CONVERT is entered at its reload, where `adc_cs_n` is low; the row's condition is read, and `di` is not. -/
theorem tickDelayExitEntersConvert : Obligations.TickDelayExitEntersConvert := by
  unfold Obligations.TickDelayExitEntersConvert
  refine ⟨fun s => ?entered, fun w b => decode_ev_ok_iff_selectedBy w b .tickDelayExit,
    fun s t v h => exec_tick_setDi (.inr (.inl rfl)) h v⟩
  case entered =>
    refine ⟨enter .convert s, exec_tickDelayExit s, ?_, adcCsN_eq _⟩
    rw [enter_eq, reloadOf, convertReload_eq]

/-- Settles O13: READOUT is entered at its reload, which is even, so `adc_sck` is low; and the row's condition is read. -/
theorem tickConvertExitEntersReadout : Obligations.TickConvertExitEntersReadout := by
  unfold Obligations.TickConvertExitEntersReadout
  refine ⟨fun s => ?entered, fun w b => decode_ev_ok_iff_selectedBy w b .tickConvertExit⟩
  case entered =>
    have reload_is_even : readoutReload.getLsbD 0 = false := by decide
    refine ⟨enter .readout s, exec_tickConvertExit s, ?_, hostCsN_eq _, (adcSck_of_readout rfl).trans reload_is_even⟩
    rw [enter_eq, reloadOf, readoutReload_eq]

/-- Settles O14: DELAY is entered at `loop_max`, where both selects are high; the row's condition is read, and the other
ticks do not read `di`. -/
theorem tickReadoutExitLoadsLoopMax : Obligations.TickReadoutExitLoadsLoopMax := by
  unfold Obligations.TickReadoutExitLoadsLoopMax
  refine ⟨fun s => ?entered, fun w b => decode_ev_ok_iff_selectedBy w b .tickReadoutExit,
    fun s t v i hi h => exec_tick_setDi hi h v⟩
  case entered =>
    have loop_max_loaded : (enter .delay s).i.toNat = s.di.toNat % 1024 := by
      rw [enter_delay_eq, BitVec.extractLsb'_toNat]
      rfl
    exact ⟨enter .delay s, exec_tickReadoutExit s, enter_eq .delay s, loop_max_loaded, adcCsN_eq _, hostCsN_eq _⟩

/-- Settles O15: the operation that a tick selects, in each state and at each of the two readings of the counter. -/
theorem tickReloadsAtZeroElseCounts : Obligations.TickReloadsAtZeroElseCounts := by
  unfold Obligations.TickReloadsAtZeroElseCounts
  intro s es hes
  have listed : s = { s with stimulus := .tick :: es } := by rw [← hes]
  obtain ⟨-, -, -, -, tick_selects, -⟩ := eventSelectsOperationByState s es
  rw [← listed] at tick_selects
  rw [tick_selects]
  by_cases hi : s.i = 0#10
  case neg => rw [if_neg hi, if_neg hi, exec_tickCount, countDown_eq]
  case pos =>
    rw [if_pos hi, if_pos hi]
    cases s.state with
    | delay => dsimp only; rw [exec_tickDelayExit, enter_eq, reloadOf, convertReload_eq]
    | convert => dsimp only; rw [exec_tickConvertExit, enter_eq, reloadOf, readoutReload_eq]
    | readout => dsimp only; rw [exec_tickReadoutExit, enter_delay_eq, BitVec.setWidth_eq]

/-! ### The ADC lines -/

/-- An effect reads nothing of the ADC lines, and writes nothing but them from an `ADC` statement
(`41_fsm_operations.md` R130). -/
theorem StepEffect.setAdcSdo {s t : State} {e : Stimulus} (h : StepEffect s e t) (v : AdcLines) :
    ∃ a, StepEffect (s.setAdcSdo v) e (t.setAdcSdo a) := by
  cases h with
  | tickCount hi => exact ⟨v, .tickCount (s := s.setAdcSdo v) hi⟩
  | tickExit hi => exact ⟨v, .tickExit (s := s.setAdcSdo v) hi⟩
  | selAssert hs => exact ⟨v, .selAssert (s := s.setAdcSdo v) hs⟩
  | selDeassert hs =>
    have deselected : (selectOff s.advance).setAdcSdo v = selectOff (s.setAdcSdo v).advance := by
      rw [selectOff_eq, selectOff_eq]
      rfl
    exact ⟨v, deselected ▸ .selDeassert hs⟩
  | sckRise b hs =>
    have sampled : (sampleEdge b s.advance).setAdcSdo v = sampleEdge b (s.setAdcSdo v).advance := by
      rw [sampleEdge_eq, sampleEdge_eq]
      rfl
    exact ⟨v, sampled ▸ .sckRise b hs⟩
  | sckRiseIdle b hs => exact ⟨v, .sckRiseIdle (s := s.setAdcSdo v) b hs⟩
  | sckFall hs => exact ⟨v, .sckFall (s := s.setAdcSdo v) hs⟩
  | sckFallIdle hs => exact ⟨v, .sckFallIdle (s := s.setAdcSdo v) hs⟩
  | setDo w => exact ⟨v, .setDo (s := s.setAdcSdo v) w⟩
  | setAdc a => exact ⟨a, .setAdc (s := s.setAdcSdo v) a⟩
  | cfgWord w =>
    have delivered : (sendControlWord w s.advance).setAdcSdo v = sendControlWord w (s.setAdcSdo v).advance := by
      rw [sendControlWord_eq, sendControlWord_eq]
      rfl
    exact ⟨v, delivered ▸ .cfgWord w⟩

/-- A script plays the same whatever the ADC lines hold at its start, but for the ADC lines (`41_fsm_operations.md` R130). -/
theorem play_setAdcSdo {es : List Stimulus} {s t : State} (h : play es s = .next t) (v : AdcLines) :
    ∃ a, play es (s.setAdcSdo v) = .next (t.setAdcSdo a) := by
  induction es generalizing s v with
  | nil => cases h; exact ⟨v, rfl⟩
  | cons e es ih =>
    obtain ⟨u, first, rest⟩ := play_cons_next h
    obtain ⟨a, effect⟩ := (stepEffect_of_step first).setAdcSdo v
    obtain ⟨a', played⟩ := ih rest a
    exact ⟨a', (play_cons_of_stepEffect (s := s.setAdcSdo v) effect).trans played⟩

/-- Settles O40: the wire is the input itself, and a script carries a change of the lines to the lines. -/
theorem adcLinesReachOnlyHostSdo : Obligations.AdcLinesReachOnlyHostSdo := by
  unfold Obligations.AdcLinesReachOnlyHostSdo
  exact ⟨fun _ => rfl, fun es s t v h => play_setAdcSdo h v⟩

/-! ### How long the FSM stays in a state -/

/-- The FSM stands in `f` at the reload that `f` is entered with (`41_fsm_operations.md` R120). -/
structure State.AtEntry (s : State) (f : FsmState) : Prop where
  state : s.state = f
  i : s.i = reloadOf s.di f

/-- Every statement keeps the state and takes its ticks, one or none, from the counter, but for a tick that finds the
counter at 0: that one enters the next state (`41_fsm_operations.md` R120, R135). -/
theorem StepEffect.stays_or_exits {s t : State} {e : Stimulus} (h : StepEffect s e t) :
    (t.state = s.state ∧ t.i.toNat + ticksIn [e] = s.i.toNat) ∨
    (e = .tick ∧ s.i = 0#10 ∧ t.AtEntry (nextState s.state)) := by
  by_cases he : e = .tick
  case pos =>
    subst he
    cases h with
    | tickCount hi => exact .inl ⟨rfl, countDown_toNat_succ (s := s.advance) hi⟩
    | tickExit hi => exact .inr ⟨rfl, hi, rfl, rfl⟩
  case neg =>
    obtain ⟨hstate, hi⟩ := h.keeps_fsm he
    have no_tick : ticksIn [e] = 0 := List.count_eq_zero.mpr (mt List.mem_singleton.mp (Ne.symm he))
    exact .inl ⟨hstate, by rw [hi, no_tick, Nat.add_zero]⟩

/-- The same for the first statement of a script that plays. -/
theorem play_cons_stays_or_exits {e : Stimulus} {es : List Stimulus} {s t : State} (h : play (e :: es) s = .next t) :
    ∃ u, play es u = .next t ∧ ((u.state = s.state ∧ u.i.toNat + ticksIn [e] = s.i.toNat) ∨
      (e = .tick ∧ s.i = 0#10 ∧ u.AtEntry (nextState s.state))) := by
  obtain ⟨u, first, rest⟩ := play_cons_next h
  exact ⟨u, rest, (stepEffect_of_step first).stays_or_exits⟩

/-- A script that plays has played its first part first. -/
theorem play_append_next {es fs : List Stimulus} {s t : State} (h : play (es ++ fs) s = .next t) :
    ∃ u, play es s = .next u ∧ play fs u = .next t := by
  rw [play_append] at h
  split at h
  next u hu => exact ⟨u, hu, h⟩
  next => cases h
  next => cases h

/-- The ticks of a script are those of its first statement and those of the rest. -/
theorem ticksIn_cons (e : Stimulus) (es : List Stimulus) : ticksIn (e :: es) = ticksIn [e] + ticksIn es :=
  List.count_append (l₁ := [e])

/-- For as many ticks as the counter holds the FSM stays in its state, counting down (`41_fsm_operations.md` R125). -/
theorem play_stays {es : List Stimulus} {s t : State} {f : FsmState} (hf : s.state = f) (h : play es s = .next t)
    (hn : ticksIn es ≤ s.i.toNat) : t.state = f ∧ t.i.toNat = s.i.toNat - ticksIn es := by
  induction es generalizing s with
  | nil => cases h; exact ⟨hf, rfl⟩
  | cons e es ih =>
    rw [ticksIn_cons] at hn ⊢
    obtain ⟨u, rest, ⟨hstate, hi⟩ | ⟨rfl, hi, -⟩⟩ := play_cons_stays_or_exits h
    case inl =>
      obtain ⟨tstate, ti⟩ := ih (hstate.trans hf) rest (by omega)
      exact ⟨tstate, by omega⟩
    case inr =>
      have one_tick : ticksIn [.tick] = 1 := rfl
      rw [hi, one_tick, BitVec.toNat_zero] at hn
      omega

/-- With one tick more than the counter holds the FSM has entered the next state, and the rest of the script plays from there
(`41_fsm_operations.md` R120, R125). -/
theorem play_exits {es : List Stimulus} {s t : State} {f : FsmState} (hf : s.state = f) (h : play es s = .next t)
    (hn : s.i.toNat < ticksIn es) :
    ∃ u post, u.AtEntry (nextState f) ∧ play post u = .next t ∧ s.i.toNat + 1 + ticksIn post = ticksIn es := by
  induction es generalizing s with
  | nil => exact absurd hn (Nat.not_lt_zero _)
  | cons e es ih =>
    rw [ticksIn_cons] at hn ⊢
    obtain ⟨u, rest, ⟨hstate, hi⟩ | ⟨rfl, hi, entered⟩⟩ := play_cons_stays_or_exits h
    case inl =>
      obtain ⟨v, post, entered, played, count⟩ := ih (hstate.trans hf) rest (by omega)
      exact ⟨v, post, entered, played, by omega⟩
    case inr => exact ⟨u, es, hf ▸ entered, rest, by rw [hi]; rfl⟩

/-- A last tick that finds the counter at 0 enters the next state, at the reload that `di` holds in the end
(`41_fsm_operations.md` R120). -/
theorem play_tick_enters {s t : State} {f : FsmState} (hf : s.state = f) (hi : s.i.toNat = 0)
    (h : play [.tick] s = .next t) : t.AtEntry (nextState f) := by
  obtain ⟨u, ended, ⟨-, counted⟩ | ⟨-, -, entered⟩⟩ := play_cons_stays_or_exits h
  case inl => exact absurd (counted.trans hi) (Nat.succ_ne_zero _)
  case inr =>
    cases ended
    rw [hf] at entered
    exact ⟨entered.state, entered.i⟩

/-- Settles O42: the FSM stays while the counter lasts, and the tick that finds it at 0 enters the next state. -/
theorem dwellIsReloadPlusOneTicks : Obligations.DwellIsReloadPlusOneTicks := by
  unfold Obligations.DwellIsReloadPlusOneTicks
  intro es s t
  refine ⟨play_stays rfl, fun h hn => ?exit⟩
  obtain ⟨u, stayed, last⟩ := play_append_next h
  obtain ⟨same_state, counted⟩ := play_stays rfl stayed hn.le
  have entered := play_tick_enters same_state (by omega) last
  cases hf : s.state with rw [hf] at entered
  | delay => exact ⟨entered.state, entered.i⟩
  | convert => exact ⟨entered.state, entered.i⟩
  | readout => exact ⟨entered.state, entered.i.trans (delayReload_eq t.di)⟩

/-! ### The cycle -/

/-- From the entry of CONVERT: 30 ticks there, then 33 in READOUT (`41_fsm_operations.md` R125, R133; log entry 16). -/
theorem play_from_convert {es : List Stimulus} {s t : State} (hs : s.AtEntry .convert) (h : play es s = .next t) :
    (ticksIn es ≤ 29 → t.state = .convert ∧ t.i.toNat = 29 - ticksIn es) ∧
    (29 < ticksIn es → ticksIn es ≤ 62 → t.state = .readout ∧ t.i.toNat = 62 - ticksIn es) := by
  have hi : s.i.toNat = 29 := congrArg BitVec.toNat hs.i
  constructor
  case left => exact fun hn => hi ▸ play_stays hs.state h (hi ▸ hn)
  case right =>
    intro hlow hhigh
    obtain ⟨u, post, entered, played, count⟩ := play_exits hs.state h (by omega)
    have ui : u.i.toNat = 32 := congrArg BitVec.toNat entered.i
    obtain ⟨tstate, ti⟩ := play_stays entered.state played (by omega)
    exact ⟨tstate, by omega⟩

/-- From DELAY with `L` in the counter: `L` + 1 ticks there, then 30 in CONVERT, then 33 in READOUT
(`41_fsm_operations.md` R132; log entry 16). -/
theorem play_from_delay {es : List Stimulus} {s t : State} (hs : s.state = .delay) (h : play es s = .next t) :
    (ticksIn es ≤ s.i.toNat → t.state = .delay ∧ t.i.toNat = s.i.toNat - ticksIn es) ∧
    (s.i.toNat < ticksIn es → ticksIn es ≤ s.i.toNat + 30 →
      t.state = .convert ∧ t.i.toNat = s.i.toNat + 30 - ticksIn es) ∧
    (s.i.toNat + 30 < ticksIn es → ticksIn es ≤ s.i.toNat + 63 →
      t.state = .readout ∧ t.i.toNat = s.i.toNat + 63 - ticksIn es) := by
  refine ⟨play_stays hs h, fun hlow hhigh => ?in_convert, fun hlow hhigh => ?in_readout⟩
  case in_convert =>
    obtain ⟨u, post, entered, played, count⟩ := play_exits hs h hlow
    obtain ⟨in_convert, -⟩ := play_from_convert entered played
    obtain ⟨tstate, ti⟩ := in_convert (by omega)
    exact ⟨tstate, by omega⟩
  case in_readout =>
    obtain ⟨u, post, entered, played, count⟩ := play_exits hs h (by omega)
    obtain ⟨-, in_readout⟩ := play_from_convert entered played
    obtain ⟨tstate, ti⟩ := in_readout (by omega) (by omega)
    exact ⟨tstate, by omega⟩

/-- Settles O43: the three phases by `play_from_delay`, and the tick that finds READOUT's counter at 0 enters DELAY. -/
theorem cycleLengthIsLoopMaxPlus64 : Obligations.CycleLengthIsLoopMaxPlus64 := by
  unfold Obligations.CycleLengthIsLoopMaxPlus64
  intro es s t hs
  refine ⟨play_from_delay hs, fun h hn => ?next_delay⟩
  obtain ⟨u, stayed, last⟩ := play_append_next h
  obtain ⟨-, -, in_readout⟩ := play_from_delay hs stayed
  obtain ⟨ustate, ui⟩ := in_readout (by omega) hn.le
  have entered := play_tick_enters ustate (by omega) last
  exact ⟨entered.state, entered.i.trans (delayReload_eq t.di)⟩

/-! ### The waveform -/

/-- Settles O46: in READOUT the counter is 32 less the ticks, odd where their number is. -/
theorem readoutWaveformHasSixteenPulses : Obligations.ReadoutWaveformHasSixteenPulses := by
  unfold Obligations.ReadoutWaveformHasSixteenPulses
  refine ⟨fun es s t hstate hi h hn => ?_, by decide⟩
  have entry : s.i.toNat = 32 := congrArg BitVec.toNat hi
  obtain ⟨tstate, ti⟩ := play_stays hstate h (by omega)
  rw [adcSck_of_readout_odd tstate, adcCsN_eq, hostCsN_eq, tstate]
  exact ⟨decide_eq_decide.mpr (by omega), rfl, rfl⟩

/-- Settles O47: the clock idles low for the 30 ticks of CONVERT, and READOUT's counter is first odd one tick after its
entry; 31 ticks are more than `T_CONV`, which spans the hold. -/
theorem conversionHoldBeforeFirstClock : Obligations.ConversionHoldBeforeFirstClock := by
  unfold Obligations.ConversionHoldBeforeFirstClock
  refine ⟨fun es s t hstate hi h hn => ?_, (Config.convertReload_le_iff 31).mp (by decide)⟩
  obtain ⟨in_convert, in_readout⟩ := play_from_convert ⟨hstate, hi⟩ h
  by_cases hc : ticksIn es ≤ 29
  case pos =>
    obtain ⟨tstate, -⟩ := in_convert hc
    rw [adcCsN_eq, adcSck_of_not_readout (by simp [tstate]), tstate]
    exact ⟨rfl, fun high => Bool.noConfusion high, fun hlast => by omega⟩
  case neg =>
    obtain ⟨tstate, ti⟩ := in_readout (by omega) (by omega)
    rw [adcCsN_eq, adcSck_of_readout_odd tstate, tstate]
    exact ⟨rfl, decide_eq_true_iff.trans (by omega)⟩

end Sys2Proof.Machine
end

section
/-! PROOFS for `42_clock_domains.md`. Sections 1 and 2: `le` as the clock of `di` (R154) and as the flip-flop of the edge detector
(R155), both read off the effect of a step, and the edge functions of R157. Section 3: a tick against a channel event (R160). -/

namespace Sys2Proof

/-- The statement is a rising edge of the serial clock, the clock of the edge detector (`42_clock_domains.md` R152, R155). -/
def Stimulus.isRise : Stimulus → Bool
  | .sckRise _ => true
  | _ => false

end Sys2Proof

namespace Sys2Proof.Machine

/-! ### `le` as the clock of `di` -/

/-- A level that stays makes no latch pulse. -/
@[simp] theorem latchPulse_same (b : Bool) : latchPulse b b = false := Bool.not_and_self b

/-- Clearing `le` makes no latch pulse. -/
@[simp] theorem latchPulse_cleared (b : Bool) : latchPulse b false = false := Bool.and_false _

/-- Setting `le` makes a latch pulse where `le` was 0. -/
@[simp] theorem latchPulse_set (b : Bool) : latchPulse b true = !b := Bool.and_true _

/-- Every statement but a deselect and a whole frame keeps `di` and makes no latch pulse (`42_clock_domains.md` R154). -/
theorem StepEffect.no_latchPulse_or_deselects {s t : State} {e : Stimulus} (h : StepEffect s e t)
    (word : ∀ w, e ≠ .cfgWord w) :
    (t.di = s.di ∧ latchPulse s.le t.le = false) ∨ (e = .selDeassert ∧ s.select = true ∧ t = selectOff s.advance) := by
  cases h with
  | tickCount => exact .inl ⟨rfl, latchPulse_same s.le⟩
  | tickExit => exact .inl ⟨rfl, latchPulse_same s.le⟩
  | selAssert => exact .inl ⟨rfl, latchPulse_same s.le⟩
  | selDeassert hs => exact .inr ⟨rfl, hs, rfl⟩
  | sckRise b => rw [sampleEdge_eq]; exact .inl ⟨rfl, latchPulse_cleared s.le⟩
  | sckRiseIdle => exact .inl ⟨rfl, latchPulse_same s.le⟩
  | sckFall => exact .inl ⟨rfl, latchPulse_same s.le⟩
  | sckFallIdle => exact .inl ⟨rfl, latchPulse_same s.le⟩
  | setDo => exact .inl ⟨rfl, latchPulse_same s.le⟩
  | setAdc => exact .inl ⟨rfl, latchPulse_same s.le⟩
  | cfgWord w => exact absurd rfl (word w)

/-- `di` is a register clocked by `le`, with `sr` as its data input (`42_clock_domains.md` R154). -/
theorem StepEffect.di_clocked_by_le {s t : State} {e : Stimulus} (h : StepEffect s e t) (word : ∀ w, e ≠ .cfgWord w) :
    t.di = if latchPulse s.le t.le then s.sr else s.di := by
  obtain ⟨di_kept, no_pulse⟩ | ⟨-, -, rfl⟩ := h.no_latchPulse_or_deselects word
  case inl =>
    rw [no_pulse, di_kept]
    rfl
  case inr =>
    rw [selectOff_eq, latchPulse_set]
    change (if s.le then s.di else s.sr) = if !s.le then s.sr else s.di
    cases s.le <;> rfl

/-- `le` goes from 0 to 1 only as `select` goes inactive (`42_clock_domains.md` R154), or in a whole frame. -/
theorem StepEffect.deselects_of_latchPulse {s t : State} {e : Stimulus} (h : StepEffect s e t)
    (word : ∀ w, e ≠ .cfgWord w) (pulse : latchPulse s.le t.le = true) :
    e = .selDeassert ∧ s.select = true ∧ s.le = false := by
  obtain ⟨was_low, -⟩ := (latchPulse_iff s.le t.le).mp pulse
  obtain ⟨-, no_pulse⟩ | ⟨he, hs, -⟩ := h.no_latchPulse_or_deselects word
  case inl => exact Bool.noConfusion (pulse.symm.trans no_pulse)
  case inr => exact ⟨he, hs, was_low⟩

/-- What writes `di`: the latching deselect, from `sr`, and a whole frame, with its word (`10_state.md` R22, log entry 3). -/
theorem StepEffect.writes_di {s t : State} {e : Stimulus} (h : StepEffect s e t) (changed : t.di ≠ s.di) :
    (e = .selDeassert ∧ s.select = true ∧ s.le = false ∧ t.di = s.sr) ∨ ∃ w, e = .cfgWord w ∧ t.di = w := by
  by_cases word : ∃ w, e = .cfgWord w
  case pos =>
    obtain ⟨w, rfl⟩ := word
    cases h
    exact .inr ⟨w, rfl, by rw [sendControlWord_eq]⟩
  case neg =>
    have word : ∀ w, e ≠ .cfgWord w := not_exists.mp word
    have clocked := h.di_clocked_by_le word
    by_cases pulse : latchPulse s.le t.le = true
    case pos =>
      obtain ⟨he, hs, hle⟩ := h.deselects_of_latchPulse word pulse
      exact .inl ⟨he, hs, hle, clocked.trans (if_pos pulse)⟩
    case neg => exact absurd (clocked.trans (if_neg pulse)) changed

/-- Settles O30: `di` is clocked by `le`, and what changes `di` is known. -/
theorem onlyTheLatchPulseWritesDi : Obligations.OnlyTheLatchPulseWritesDi := by
  unfold Obligations.OnlyTheLatchPulseWritesDi
  intro s t h
  have effect := stepEffect_of_step h
  exact ⟨effect.di_clocked_by_le, effect.writes_di⟩

/-! ### `le` as the flip-flop of the edge detector -/

/-- The flip-flop holds where no clock edge meets it while selected and the preset, if it is on, finds it set. -/
theorem edgeDetector_of_idle {select edge le : Bool} (preset : select = false → le = true)
    (idle : select = true → edge = false) : edgeDetector select edge le = le := by
  cases select with
  | false => exact (edgeDetector_preset edge le).trans (preset rfl).symm
  | true => rw [idle rfl, edgeDetector_hold]

/-- Every statement but a whole frame moves `le` as the component moves, at the level of `select` after it
(`42_clock_domains.md` R155; `10_state.md` R25, R26). -/
theorem StepEffect.le_eq_edgeDetector {s t : State} {e : Stimulus} (h : StepEffect s e t)
    (preset : s.select = false → s.le = true) (word : ∀ w, e ≠ .cfgWord w) :
    t.le = edgeDetector t.select e.isRise s.le := by
  have held : s.le = edgeDetector s.select false s.le := (edgeDetector_of_idle preset fun _ => rfl).symm
  cases h with
  | tickCount => exact held
  | tickExit => exact held
  | selAssert => exact (edgeDetector_hold s.le).symm
  | selDeassert =>
    rw [selectOff_eq]
    exact (edgeDetector_preset _ s.le).symm
  | sckRise b hs =>
    rw [sampleEdge_eq]
    change false = edgeDetector s.select true s.le
    rw [hs, edgeDetector_clear]
  | sckRiseIdle b hs =>
    exact (edgeDetector_of_idle preset fun selected => Bool.noConfusion (hs.symm.trans selected)).symm
  | sckFall => exact held
  | sckFallIdle => exact held
  | setDo => exact held
  | setAdc => exact held
  | cfgWord w => exact absurd rfl (word w)

/-- Settles O31: the step's effect moves `le` as the component does. -/
theorem leIsTheEdgeDetector : Obligations.LeIsTheEdgeDetector := by
  unfold Obligations.LeIsTheEdgeDetector
  intro s t preset h word
  exact (stepEffect_of_step h).le_eq_edgeDetector preset word

/-! ### A tick against a channel event -/

/-- What is no event: `select` going to the level it has (`30_encoding.md` R78 (b)). -/
theorem State.noEvent_iff (s : State) : s.noEvent = true ↔
    (s.nextStimulus = .selAssert ∧ s.select = true) ∨ (s.nextStimulus = .selDeassert ∧ s.select = false) := by
  simp [State.noEvent]

/-- Every statement that is an event or sets an input has an effect (`60_exceptions.md` R170). -/
theorem stepEffect_of_event {s : State} (h : ¬ s.noEvent = true) : ∃ t, StepEffect s s.nextStimulus t := by
  rw [State.noEvent_iff, not_or, not_and, not_and, Bool.not_eq_true, Bool.not_eq_false] at h
  obtain ⟨was_inactive, was_active⟩ := h
  cases he : s.nextStimulus with
  | tick => exact (stepEffect_of_sparesSr (s := s) rfl).imp fun _ found => found.1
  | selAssert => exact ⟨_, .selAssert (was_inactive he)⟩
  | selDeassert => exact ⟨_, .selDeassert (was_active he)⟩
  | sckRise b =>
    cases hs : s.select with
    | false => exact ⟨_, .sckRiseIdle b hs⟩
    | true => exact ⟨_, .sckRise b hs⟩
  | sckFall =>
    cases hs : s.select with
    | false => exact ⟨_, .sckFallIdle hs⟩
    | true => exact ⟨_, .sckFall hs⟩
  | setDo v => exact ⟨_, .setDo v⟩
  | setAdc v => exact ⟨_, .setAdc v⟩
  | cfgWord w => exact ⟨_, .cfgWord w⟩

/-- What is no event at a level of `select` stops every script that begins with it at that level, by one name
(`30_encoding.md` R78, log entry 11). -/
theorem play_of_noEvent {s : State} {e : Stimulus} (h : (s.setStimulus [e]).noEvent = true) :
    ∃ r, ∀ (u : State) (es : List Stimulus), u.select = s.select → play (e :: es) u = .refused r := by
  obtain ⟨he, hs⟩ | ⟨he, hs⟩ := (State.noEvent_iff _).mp h
  case inl =>
    obtain rfl : e = .selAssert := he
    refine ⟨.noSuchOperation .selectAlreadyActive, fun u es hu => ?_⟩
    have refused : step (u.setStimulus (.selAssert :: es)) = .refused (.noSuchOperation .selectAlreadyActive) :=
      (selectToItsOwnLevelIsRefused u es).1 (hu.trans hs)
    rw [play_cons, refused]
  case inr =>
    obtain rfl : e = .selDeassert := he
    refine ⟨.noSuchOperation .selectAlreadyInactive, fun u es hu => ?_⟩
    have refused : step (u.setStimulus (.selDeassert :: es)) = .refused (.noSuchOperation .selectAlreadyInactive) :=
      (selectToItsOwnLevelIsRefused u es).2 (hu.trans hs)
    rw [play_cons, refused]

/-- Two ticks that meet the same registers of the FSM write the same, if `di` is the same where one of them reads it, at a READOUT
exit (`41_fsm_operations.md` R120, R124). -/
theorem step_ticks_agree {s t : State} (hs : s.nextStimulus = .tick) (ht : t.nextStimulus = .tick)
    (hstate : t.state = s.state) (hi : t.i = s.i) (hdi : s.state = .readout → s.i = 0#10 → t.di = s.di) :
    ∃ f v, step s = .next (s.advance.setFsm f v) ∧ step t = .next (t.advance.setFsm f v) := by
  by_cases hz : s.i = 0#10
  case pos =>
    have zero : counterZero s.i = true := (counterZero_iff s.i).mpr hz
    have same_reload : reloadOf t.di (nextState s.state) = reloadOf s.di (nextState s.state) := by
      cases hf : s.state with
      | delay => rfl
      | convert => rfl
      | readout => rw [hdi hf hz]
    refine ⟨nextState s.state, reloadOf s.di (nextState s.state), ?_, ?_⟩
    · rw [step_tick hs, if_pos zero]
      rfl
    · rw [step_tick ht, hi, if_pos zero, hstate, ← same_reload]
      rfl
  case neg =>
    have not_zero : ¬ counterZero s.i = true := mt (counterZero_iff s.i).mp hz
    refine ⟨s.state, s.i - 1#10, ?_, ?_⟩
    · rw [step_tick hs, if_neg not_zero]
      rfl
    · rw [step_tick ht, hi, if_neg not_zero, ← hstate, ← hi]
      rfl

/-- A tick commutes with another statement that has an effect, if `di` stays where the tick reads it: the one writes the FSM's
registers only, which the other neither reads nor writes (`42_clock_domains.md` R160). -/
theorem play_tick_comm {s t : State} {e : Stimulus} (he : e ≠ .tick) (h : StepEffect (s.setStimulus [e]) e t)
    (hdi : s.state = .readout → s.i = 0#10 → t.di = s.di) : play [.tick, e] s = play [e, .tick] s := by
  obtain ⟨hstate, hi⟩ := h.keeps_fsm he
  have stepped : step (s.setStimulus [e]) = .next t := step_of_stepEffect rfl h
  obtain ⟨f, v, tick_first, tick_last⟩ : ∃ f v,
      step (s.setStimulus [.tick, e]) = .next ((s.setFsm f v).setStimulus [e]) ∧
      step (t.setStimulus [.tick]) = .next ((t.setFsm f v).setStimulus []) :=
    step_ticks_agree (s := s.setStimulus [.tick, e]) (t := t.setStimulus [.tick]) rfl rfl hstate hi hdi
  have then_event : step ((s.setFsm f v).setStimulus [e]) = .next (t.setFsm f v) :=
    step_setFsm (s := s.setStimulus [e]) he stepped f v
  have event_first : step (s.setStimulus [e, .tick]) = .next (t.setStimulus [.tick]) := by
    rw [step_rest e [.tick] [], stepped]
  calc play [.tick, e] s
      = play [e] (s.setFsm f v) := (play_cons_of_step tick_first).trans (play_setStimulus _ _ _)
    _ = play [] (t.setFsm f v) := play_cons_of_step then_event
    _ = play [.tick] t := (play_cons_of_step tick_last).symm
    _ = play [e, .tick] s := ((play_cons_of_step event_first).trans (play_setStimulus _ _ _)).symm

/-- Settles O33: an event that has an effect commutes, since it does not write `di` at a READOUT exit; what is no event is refused
before the tick and after it, since the tick keeps `select`. -/
theorem tickCommutesWithChannelEvents : Obligations.TickCommutesWithChannelEvents := by
  unfold Obligations.TickCommutesWithChannelEvents
  intro s e channel no_conflict
  have he : e ≠ .tick := by
    rintro rfl
    exact Bool.noConfusion channel
  by_cases event : (s.setStimulus [e]).noEvent = true
  case neg =>
    obtain ⟨t, effect⟩ : ∃ t, StepEffect (s.setStimulus [e]) e t := stepEffect_of_event event
    refine play_tick_comm he effect fun hstate hi => ?_
    by_contra changed
    obtain ⟨deselect, hs, hle, -⟩ | ⟨w, word, -⟩ := effect.writes_di changed
    case inl => exact no_conflict ⟨hstate, hi, .inl ⟨deselect, hs, hle⟩⟩
    case inr => exact no_conflict ⟨hstate, hi, .inr ⟨w, word⟩⟩
  case pos =>
    obtain ⟨r, refused⟩ := play_of_noEvent event
    obtain ⟨f, v, ticked⟩ := step_tick_setFsm (s := s.setStimulus [.tick, e]) rfl
    have after_tick : play [.tick, e] s = .refused r := (play_cons_of_step ticked).trans (refused _ [] rfl)
    exact after_tick.trans (refused s [.tick] rfl).symm

/-! ### Events from samples of the pins -/

/-- The event of the select line: one, if the line changed, and the one that leads to the later level. -/
theorem selectEvent_eq (prev now : Pins) : selectEvent prev now =
    if prev.select = now.select then [] else [if now.select then .selAssert else .selDeassert] := by
  unfold selectEvent selectEdge deselectEdge
  cases prev.select <;> cases now.select <;> rfl

/-- The event of the serial clock: one, if the line changed, and the edge that leads to the later level. -/
theorem clockEvent_eq (prev now : Pins) : clockEvent prev now =
    if prev.sck = now.sck then [] else [if now.sck then .sckRise now.serialIn else .sckFall] := by
  unfold clockEvent clockRise clockFall
  cases prev.sck <;> cases now.sck <;> rfl

/-- The events of the select line, by its two levels (`42_clock_domains.md` R157). -/
theorem mem_selectEvent {prev now : Pins} {e : Stimulus} : e ∈ selectEvent prev now ↔
    (e = .selAssert ∧ prev.select = false ∧ now.select = true) ∨
    (e = .selDeassert ∧ prev.select = true ∧ now.select = false) := by
  rw [selectEvent_eq]
  cases prev.select <;> cases now.select <;> simp

/-- The events of the serial clock, by its two levels (`42_clock_domains.md` R157). -/
theorem mem_clockEvent {prev now : Pins} {e : Stimulus} : e ∈ clockEvent prev now ↔
    (e = .sckRise now.serialIn ∧ prev.sck = false ∧ now.sck = true) ∨
    (e = .sckFall ∧ prev.sck = true ∧ now.sck = false) := by
  rw [clockEvent_eq]
  cases prev.sck <;> cases now.sck <;> simp

/-- One event of the select line for a change of it. -/
theorem length_selectEvent (prev now : Pins) : (selectEvent prev now).length = (prev.select != now.select).toNat := by
  rw [selectEvent_eq]
  cases prev.select <;> cases now.select <;> rfl

/-- One event of the serial clock for a change of it. -/
theorem length_clockEvent (prev now : Pins) : (clockEvent prev now).length = (prev.sck != now.sck).toNat := by
  rw [clockEvent_eq]
  cases prev.sck <;> cases now.sck <;> rfl

/-- The event of the select line takes `select` from its earlier to its later level. -/
theorem selectAlternates_selectEvent_append (prev now : Pins) (es : List Stimulus) :
    selectAlternates prev.select (selectEvent prev now ++ es) = selectAlternates now.select es := by
  rw [selectEvent_eq]
  cases prev.select <;> cases now.select <;> rfl

/-- The event of the serial clock leaves `select`. -/
theorem selectAlternates_clockEvent_append (prev now : Pins) (sel : Bool) (es : List Stimulus) :
    selectAlternates sel (clockEvent prev now ++ es) = selectAlternates sel es := by
  rw [clockEvent_eq]
  cases prev.sck <;> cases now.sck <;> rfl

/-- The event of the serial clock takes the clock from its earlier to its later level. -/
theorem edgesAlternate_clockEvent_append (prev now : Pins) (es : List Stimulus) :
    edgesAlternate prev.sck (clockEvent prev now ++ es) = edgesAlternate now.sck es := by
  rw [clockEvent_eq]
  cases prev.sck <;> cases now.sck <;> rfl

/-- The event of the select line leaves the serial clock. -/
theorem edgesAlternate_selectEvent_append (prev now : Pins) (sck : Bool) (es : List Stimulus) :
    edgesAlternate sck (selectEvent prev now ++ es) = edgesAlternate sck es := by
  rw [selectEvent_eq]
  cases prev.select <;> cases now.select <;> rfl

/-- The orders are those of the two lines' events (`42_clock_domains.md` R160). -/
theorem mem_eventOrders {prev now : Pins} {es : List Stimulus} : es ∈ eventOrders prev now ↔
    es = selectEvent prev now ++ clockEvent prev now ∨ es = clockEvent prev now ++ selectEvent prev now := by
  simp [eventOrders]

/-- Each order holds the events of both lines and no other. -/
theorem perm_of_mem_eventOrders {prev now : Pins} {es : List Stimulus} (h : es ∈ eventOrders prev now) :
    es.Perm (selectEvent prev now ++ clockEvent prev now) := by
  obtain rfl | rfl := mem_eventOrders.mp h
  · exact .refl _
  · exact List.perm_append_comm

/-- In each order `select` alternates from its earlier level (`30_encoding.md` R78 (b)). -/
theorem selectAlternates_of_mem_eventOrders {prev now : Pins} {es : List Stimulus} (h : es ∈ eventOrders prev now) :
    selectAlternates prev.select es = true := by
  obtain rfl | rfl := mem_eventOrders.mp h
  · rw [selectAlternates_selectEvent_append, ← List.append_nil (clockEvent _ _), selectAlternates_clockEvent_append]
    rfl
  · rw [selectAlternates_clockEvent_append, ← List.append_nil (selectEvent _ _), selectAlternates_selectEvent_append]
    rfl

/-- In each order the edges of the serial clock alternate from its earlier level (`42_clock_domains.md` R153). -/
theorem edgesAlternate_of_mem_eventOrders {prev now : Pins} {es : List Stimulus} (h : es ∈ eventOrders prev now) :
    edgesAlternate prev.sck es = true := by
  obtain rfl | rfl := mem_eventOrders.mp h
  · rw [edgesAlternate_selectEvent_append, ← List.append_nil (clockEvent _ _), edgesAlternate_clockEvent_append]
    rfl
  · rw [edgesAlternate_clockEvent_append, ← List.append_nil (selectEvent _ _), edgesAlternate_selectEvent_append]
    rfl

/-- Settles O54: each line gives the event of its change, and the orders are the two ways to put the lines' events together. -/
theorem sampledPinsGiveWellFormedEvents : Obligations.SampledPinsGiveWellFormedEvents := by
  unfold Obligations.SampledPinsGiveWellFormedEvents
  refine ⟨fun _ _ => ⟨rfl, rfl, rfl, rfl⟩, fun prev now => ⟨List.cons_ne_nil _ _, fun es hes => ?found⟩,
    fun prev now hselect hsck => ?double⟩
  case found =>
    have events := perm_of_mem_eventOrders hes
    have mem_iff (e : Stimulus) : e ∈ es ↔ e ∈ selectEvent prev now ∨ e ∈ clockEvent prev now :=
      events.mem_iff.trans List.mem_append
    have one_for_each_change : es.length = (prev.select != now.select).toNat + (prev.sck != now.sck).toNat := by
      rw [events.length_eq, List.length_append, length_selectEvent, length_clockEvent]
    refine ⟨?assert, ?deassert, fun b => ?rise, ?fall, one_for_each_change, selectAlternates_of_mem_eventOrders hes,
      edgesAlternate_of_mem_eventOrders hes⟩
    case assert => simp [mem_iff, mem_selectEvent, mem_clockEvent]
    case deassert => simp [mem_iff, mem_selectEvent, mem_clockEvent]
    case rise => simpa [mem_iff, mem_selectEvent, mem_clockEvent] using and_rotate
    case fall => simp [mem_iff, mem_selectEvent, mem_clockEvent]
  case double =>
    rw [eventOrders, selectEvent_eq, clockEvent_eq, if_neg hselect, if_neg hsck]
    exact ⟨List.mem_cons_self, List.mem_cons_of_mem _ List.mem_cons_self⟩

end Sys2Proof.Machine
end

section
/-! PROOFS for `60_exceptions.md`. Section 1: there is no fault, and every operation and every event is answered (R170). Section 2:
the preset of `le` wins over a sample edge that coincides with it (R172), since a deselect presets `le` whatever came before
it, and the edge that comes after it meets `select` inactive. -/

namespace Sys2Proof.Machine

/-! ### Totality -/

/-- Every operation is total (`60_exceptions.md` R170): each row's meaning is a next state, with no condition on the state. -/
theorem exists_exec_eq_next (i : Instr) (s : State) : ∃ t, exec i s = .next t := by
  cases i with
  | cfgword w => exact ⟨_, exec_cfgword w s⟩
  | tickCount => exact ⟨_, exec_tickCount s⟩
  | tickDelayExit => exact ⟨_, exec_tickDelayExit s⟩
  | tickConvertExit => exact ⟨_, exec_tickConvertExit s⟩
  | tickReadoutExit => exact ⟨_, exec_tickReadoutExit s⟩
  | selAssert => exact ⟨_, exec_selAssert s⟩
  | sckRiseSeed b => exact ⟨_, exec_sckRiseSeed b s⟩
  | sckRiseShift b => exact ⟨_, exec_sckRiseShift b s⟩
  | sckRiseIdle => exact ⟨_, exec_sckRiseIdle s⟩
  | sckFallOut => exact ⟨_, exec_sckFallOut s⟩
  | sckFallIdle => exact ⟨_, exec_sckFallIdle s⟩
  | selDeassertLatch => exact ⟨_, exec_selDeassertLatch s⟩
  | selDeassertNolatch => exact ⟨_, exec_selDeassertNolatch s⟩

/-- Settles O23: no fault exists, no operation has a condition, and what is an event or sets an input has an effect, which the step
answers. -/
theorem everyOperationAnswersANextState : Obligations.EveryOperationAnswersANextState := by
  unfold Obligations.EveryOperationAnswersANextState
  refine ⟨nofun, exists_exec_eq_next, fun s event => ?_⟩
  obtain ⟨t, effect⟩ : ∃ t, StepEffect s s.nextStimulus t := stepEffect_of_event (ne_true_of_eq_false event)
  exact ⟨t, step_of_stepEffect rfl effect⟩

/-! ### A sample edge at deselection -/

/-- Whatever `le` was, a deselect leaves it preset (`10_state.md` R26). -/
@[simp] theorem selectOff_le (s : State) : (selectOff s).le = true := by
  rw [selectOff_eq]

/-- A deselect leaves `select` inactive. -/
@[simp] theorem selectOff_select (s : State) : (selectOff s).select = false := by
  rw [selectOff_eq]

/-- A sample edge leaves the level of `select`. -/
@[simp] theorem sampleEdge_select (b : Bool) (s : State) : (sampleEdge b s).select = s.select := by
  rw [sampleEdge_eq]

/-- A rising edge while selected, played: it samples. -/
theorem play_sckRise_cons {s : State} (hs : s.select = true) (b : Bool) (es : List Stimulus) :
    play (.sckRise b :: es) s = play es (sampleEdge b s) := by
  rw [play_cons_of_stepEffect (.sckRise (s := s.setStimulus (.sckRise b :: es)) b hs), sampleEdge_eq, sampleEdge_eq]
  rfl

/-- A rising edge while deselected, played: nothing happens (`40_sr_operations.md` R93). -/
theorem play_sckRise_cons_of_not_select {s : State} (hs : s.select = false) (b : Bool) (es : List Stimulus) :
    play (.sckRise b :: es) s = play es s :=
  have ignored : StepEffect (s.setStimulus (.sckRise b :: es)) (.sckRise b) (s.setStimulus es) := .sckRiseIdle b hs
  (play_cons_of_stepEffect ignored).trans (play_setStimulus es es s)

/-- Settles O35: the edge first clears `le`, and the deselect presets it; the deselect first presets it, and the edge is idle. -/
theorem deselectWithSampleEdgePresetsLe : Obligations.DeselectWithSampleEdgePresetsLe := by
  unfold Obligations.DeselectWithSampleEdgePresetsLe
  intro s b hs
  have edge_first : play [.sckRise b, .selDeassert] s = .next ((selectOff (sampleEdge b s)).setStimulus []) := by
    rw [play_sckRise_cons hs, play_selDeassert_cons ((sampleEdge_select b s).trans hs), play_nil]
  have deselect_first : play [.selDeassert, .sckRise b] s = .next ((selectOff s).setStimulus []) := by
    rw [play_selDeassert_cons hs, play_sckRise_cons_of_not_select (selectOff_select s), play_nil]
  exact ⟨⟨_, edge_first, selectOff_le _, selectOff_select _⟩, ⟨_, deselect_first, selectOff_le _, selectOff_select _⟩⟩

end Sys2Proof.Machine
end

section
/-! PROOFS for `70_reset_and_hazards.md`. Section 1, from power-on: the first cycle (R192), a silent host's run being a script of
ticks, and the frame that sets the next period (R193), the frame's word standing in `di` until the READOUT exit reads it. Section
2: `do[15]` is never read (R196), since a shift drops the top bit. -/

namespace Sys2Proof.Machine

/-! ### The frame that sets the period -/

/-- A script that plays is used up (`30_encoding.md` R80). -/
theorem play_stimulus {es : List Stimulus} {s t : State} (h : play es s = .next t) : t.stimulus = [] := by
  induction es generalizing s with
  | nil => cases h; rfl
  | cons e es ih =>
    obtain ⟨u, -, rest⟩ := play_cons_next h
    exact ih rest

/-- A tick in READOUT with `i` = 0, played: DELAY is entered at the `loop_max` that `di` holds (`41_fsm_operations.md` R124). -/
theorem play_readoutExit {s : State} (hstate : s.state = .readout) (hi : s.i = 0#10) :
    play [.tick] s = .next { s with stimulus := [], state := .delay, i := s.di.extractLsb' 0 10 } := by
  have exited : step (s.setStimulus [.tick]) = .next ((enter .delay s).setStimulus []) := step_readoutExit rfl hstate hi
  rw [play_cons_of_step exited, play_setStimulus, play_nil, enter_delay_eq]
  rfl

/-- Settles O53: the frame leaves its word in `di`, what comes after it and is no channel event spares `di`, and the exit loads the
low ten bits of what it finds there. -/
theorem frameSetsTheNextPeriod : Obligations.FrameSetsTheNextPeriod := by
  unfold Obligations.FrameSetsTheNextPeriod
  intro es fs w s u hs hes hfs h hstate hi
  obtain ⟨a, delivered, a_di, -⟩ := sixteenClockFrameDeliversTheWord es w s hs hes
  obtain ⟨b, waited, spared⟩ := play_of_no_channel_event (List.filter_eq_nil_iff.mp hfs) a
  obtain rfl : b = u := by
    rw [play_append, delivered] at h
    exact Host.Outcome.next.inj (waited.symm.trans h)
  have word_kept : b.di = w := spared.di.trans a_di
  have used_up : b.stimulus = [] := play_stimulus waited
  rw [play_append, h]
  calc play [.tick] b
      = .next { b with stimulus := [], state := .delay, i := b.di.extractLsb' 0 10 } := play_readoutExit hstate hi
    _ = .next { b with state := .delay, i := w.extractLsb' 0 10 } := by rw [word_kept, ← used_up]

/-! ### The top bit of `do` -/

/-- The two words differ in bit 15 at most (`70_reset_and_hazards.md` R196). -/
def AgreeBelowTop (v w : Word) : Prop := ∀ k, k < 15 → v.getLsbD k = w.getLsbD k

/-- A shift drops the top bit, so it makes one word of two that differ there only (`40_sr_operations.md` R91). -/
theorem AgreeBelowTop.shiftedIn_eq {v w : Word} (h : AgreeBelowTop v w) (b : Bool) : shiftedIn v b = shiftedIn w b := by
  apply BitVec.eq_of_getLsbD_eq
  intro k hk
  cases k with
  | zero => rw [shiftedIn_bit_zero, shiftedIn_bit_zero]
  | succ k =>
    have below_top : k < 15 := Nat.lt_of_succ_lt_succ hk
    rw [shiftedIn_bit_succ v b k below_top, shiftedIn_bit_succ w b k below_top, h k below_top]

/-- A sample edge does not see the top bit of `do` (`40_sr_operations.md` R91, R92). -/
theorem sampleEdge_setDoIn {s : State} {v : Word} (h : AgreeBelowTop v s.doIn) (b : Bool) :
    sampleEdge b (s.setDoIn v) = (sampleEdge b s).setDoIn v := by
  have same_word : shiftedIn (if (s.setDoIn v).le then (s.setDoIn v).doIn else (s.setDoIn v).sr) b =
      shiftedIn (if s.le then s.doIn else s.sr) b := by
    rw [State.setDoIn_le, State.setDoIn_doIn, State.setDoIn_sr]
    split
    next => exact h.shiftedIn_eq b
    next => rfl
  rw [sampleEdge_eq, same_word, sampleEdge_eq]
  rfl

/-- A whole frame neither reads nor writes `do`: sixteen bits push out what its seed has loaded (`40_sr_operations.md` R98). -/
theorem sendControlWord_setDoIn (w : Word) (s : State) (v : Word) :
    sendControlWord w (s.setDoIn v) = (sendControlWord w s).setDoIn v := by
  rw [sendControlWord_eq, sendControlWord_eq]
  rfl

/-- Only a `DO` statement writes `do` (`30_encoding.md` R80). -/
theorem StepEffect.keeps_doIn {s t : State} {e : Stimulus} (h : StepEffect s e t) (input : ∀ w, e ≠ .setDo w) :
    t.doIn = s.doIn := by
  cases h with
  | tickCount => rfl
  | tickExit => rfl
  | selAssert => rfl
  | selDeassert => rw [selectOff_eq]; rfl
  | sckRise => rw [sampleEdge_eq]; rfl
  | sckRiseIdle => rfl
  | sckFall => rfl
  | sckFallIdle => rfl
  | setDo v => exact absurd rfl (input v)
  | setAdc => rfl
  | cfgWord => rw [sendControlWord_eq]; rfl

/-- An effect other than a change of `do` does not see its top bit: the seed drops that bit, a whole frame pushes all of `do` out,
and nothing else reads `do` (`40_sr_operations.md` R91, R102). -/
theorem StepEffect.setDoIn_of_agree {s t : State} {e : Stimulus} {v : Word} (h : StepEffect s e t)
    (input : ∀ w, e ≠ .setDo w) (hv : AgreeBelowTop v s.doIn) : StepEffect (s.setDoIn v) e (t.setDoIn v) := by
  by_cases rise : ∃ b, e = .sckRise b
  case pos =>
    obtain ⟨b, rfl⟩ := rise
    cases h with
    | sckRise _ hs => exact sampleEdge_setDoIn (s := s.advance) hv b ▸ .sckRise b hs
    | sckRiseIdle _ hs => exact .sckRiseIdle (s := s.setDoIn v) b hs
  case neg =>
    by_cases word : ∃ w, e = .cfgWord w
    case pos =>
      obtain ⟨w, rfl⟩ := word
      cases h
      exact sendControlWord_setDoIn w s.advance v ▸ .cfgWord w
    case neg => exact h.setDoIn (fun b seed => rise ⟨b, seed.1⟩) (not_exists.mp word) input v

/-- Every effect carries over to a `do` that differs in its top bit, and the levels of `do` it leaves agree below that bit. -/
theorem StepEffect.exists_setDoIn_of_agree {s t : State} {e : Stimulus} {v : Word} (h : StepEffect s e t)
    (hv : AgreeBelowTop v s.doIn) : ∃ d, AgreeBelowTop d t.doIn ∧ StepEffect (s.setDoIn v) e (t.setDoIn d) := by
  by_cases input : ∃ w, e = .setDo w
  case pos =>
    obtain ⟨w, rfl⟩ := input
    cases h
    exact ⟨w, fun _ _ => rfl, .setDo (s := s.setDoIn v) w⟩
  case neg =>
    have input : ∀ w, e ≠ .setDo w := not_exists.mp input
    exact ⟨v, h.keeps_doIn input ▸ hv, h.setDoIn_of_agree input hv⟩

/-- A script plays the same whatever the top bit of `do` at its start, but for `do` (`70_reset_and_hazards.md` R196). -/
theorem play_setDoIn_of_agree {es : List Stimulus} {s t : State} {v : Word} (h : play es s = .next t)
    (hv : AgreeBelowTop v s.doIn) : ∃ d, play es (s.setDoIn v) = .next (t.setDoIn d) := by
  induction es generalizing s v with
  | nil => cases h; exact ⟨v, rfl⟩
  | cons e es ih =>
    obtain ⟨u, first, rest⟩ := play_cons_next h
    obtain ⟨d, agree, effect⟩ := (stepEffect_of_step first).exists_setDoIn_of_agree hv
    obtain ⟨d', played⟩ := ih rest agree
    exact ⟨d', (play_cons_of_stepEffect (s := s.setDoIn v) effect).trans played⟩

/-- Settles O39: that the words agree in their low fifteen bits is kept by every effect, and no effect sees more of `do`. -/
theorem topDoBitReachesNoRegister : Obligations.TopDoBitReachesNoRegister := by
  unfold Obligations.TopDoBitReachesNoRegister
  exact fun es s t v hv h => play_setDoIn_of_agree h hv

/-! ### From power-on -/

/-- A silent host's run is a script of ticks (log entry 2). -/
theorem run_silent (n : Nat) (s : State) : run n (s.setStimulus []) = play (Stimulus.ticks n) s := by
  induction n generalizing s with
  | zero => rfl
  | succ n ih =>
    obtain ⟨f, v, silent, listed⟩ := step_ticks_agree (s := s.setStimulus [])
      (t := s.setStimulus (.tick :: Stimulus.ticks n)) rfl rfl rfl rfl fun _ _ => rfl
    rw [run_succ, silent]
    exact (ih (s.setFsm f v)).trans (play_cons_of_step listed).symm

/-- Ticks play, and write the FSM's registers only (`10_state.md` R33). -/
theorem play_ticks (n : Nat) (s : State) : ∃ f v, play (Stimulus.ticks n) s = .next ((s.setFsm f v).setStimulus []) := by
  have no_other : withoutTicks (Stimulus.ticks n) = [] := by simp [withoutTicks, Stimulus.ticks]
  have nothing : play (withoutTicks (Stimulus.ticks n)) s = .next (s.setStimulus []) := by rw [no_other, play_nil]
  exact play_of_play_withoutTicks nothing s.state s.i

/-- `TICK n` holds `n` ticks (`30_encoding.md` R81). -/
@[simp] theorem ticksIn_ticks (n : Nat) : ticksIn (Stimulus.ticks n) = n := List.count_replicate_self

/-- From power-on with nothing placed the run is the ticks played, and moves the FSM's registers only. -/
theorem run_reset (n : Nat) : ∃ f v, run n State.reset = .next (State.reset.setFsm f v) ∧
    play (Stimulus.ticks n) State.reset = .next (State.reset.setFsm f v) := by
  obtain ⟨f, v, ticked⟩ := play_ticks n State.reset
  exact ⟨f, v, (run_silent n State.reset).trans ticked, ticked⟩

/-- The first CONVERT: 30 ticks, from the first after power-on (`70_reset_and_hazards.md` R192). -/
theorem run_reset_convert {n : Nat} (low : 0 < n) (high : n ≤ 30) :
    ∃ t, run n State.reset = .next t ∧ t.state = .convert ∧ t.i = BitVec.ofNat 10 (30 - n) := by
  obtain ⟨f, v, ran, ticked⟩ := run_reset n
  obtain ⟨-, in_convert, -⟩ := play_from_delay (s := State.reset) rfl ticked
  have counter : State.reset.i.toNat = 0 := rfl
  rw [ticksIn_ticks, counter, Nat.zero_add] at in_convert
  obtain ⟨tstate, ti⟩ := in_convert low high
  exact ⟨_, ran, tstate, by rw [← ti]; simp⟩

/-- The first READOUT: 33 ticks, after those of CONVERT (`70_reset_and_hazards.md` R192). -/
theorem run_reset_readout {n : Nat} (low : 30 < n) (high : n ≤ 63) :
    ∃ t, run n State.reset = .next t ∧ t.state = .readout ∧ t.i = BitVec.ofNat 10 (63 - n) := by
  obtain ⟨f, v, ran, ticked⟩ := run_reset n
  obtain ⟨-, -, in_readout⟩ := play_from_delay (s := State.reset) rfl ticked
  have counter : State.reset.i.toNat = 0 := rfl
  rw [ticksIn_ticks, counter, Nat.zero_add, Nat.zero_add] at in_readout
  obtain ⟨tstate, ti⟩ := in_readout low high
  exact ⟨_, ran, tstate, by rw [← ti]; simp⟩

/-- The tick after READOUT enters DELAY at the `loop_max` of power-on, 0: the cycle closes (`70_reset_and_hazards.md` R192). -/
theorem run_reset_cycle : run 64 State.reset = .next State.reset := by
  obtain ⟨f, v, ran, ticked⟩ := run_reset 64
  obtain ⟨-, next_delay⟩ := cycleLengthIsLoopMaxPlus64 (Stimulus.ticks 63) State.reset (State.reset.setFsm f v) rfl
  obtain ⟨tstate, ti⟩ := next_delay ticked (ticksIn_ticks 63)
  obtain rfl : f = .delay := tstate
  obtain rfl : v = 0#10 := ti
  exact ran

/-- Settles O48: the boundaries of the two phases after power-on's DELAY, and the tick that closes the cycle. -/
theorem firstCycleFromPowerOn : Obligations.FirstCycleFromPowerOn :=
  ⟨run_reset_convert (by decide) (by decide), run_reset_convert (by decide) (by decide),
    run_reset_readout (by decide) (by decide), run_reset_readout (by decide) (by decide), run_reset_cycle⟩

end Sys2Proof.Machine
end
